-- ==== Sys2Proof/Word.lean ====
section
/-! DEFINITION. The word types of the block: every register is a 64-bit word (spec R11), and an `f64` is held as
its IEEE 754 binary64 image (spec R72). -/

namespace Sys2Proof

/-- A 64-bit register or command word (R11). -/
abbrev Word := BitVec 64

/-- An `f64` value as the 64 bits its register holds (R13, R72). Arithmetic on it is `Machine/Float.lean`. -/
abbrev F64 := BitVec 64

/-- One byte of the register window (R73). -/
abbrev Byte := BitVec 8

end Sys2Proof
end

