-- ==== Sys2Proof/Config.lean ====
section
/-! DEFINITION. What an implementation fixes (the parameters of R8), the shape constants of R10, the names of the
window registers (R71), and the free values: constants without a body, so that no proof can see what they are. -/

namespace Sys2Proof

/-- Sub-frames per frame (R8, R10: a constant). -/
abbrev subframes : Nat := 4
/-- Taps per interpolation row (R8, R10: a constant). -/
abbrev interpTaps : Nat := 9
/-- Interpolation rows (R8, R10: a constant). -/
abbrev fracRows : Nat := 8
/-- Damping filter taps (R8, R10: a constant). -/
abbrev dampTaps : Nat := 5
/-- The length of the register window in bytes (R70). -/
abbrev windowBytes : Nat := 0x10000

/-- The registers of the window (R71), array entries by index. -/
inductive Reg where
  | cmd
  | status
  | faultCause
  | faultInfo
  | lag (m : Nat)
  | gain (m : Nat)
  | input (k : Nat)
  | output (k : Nat)
  | trial (j k : Nat)
  | hist (k : Nat)
  | damp (k : Nat)
  | lastLag
  | lastGain
  deriving DecidableEq, Repr

/-- The register map: the base offset of each register or register array (R71; the parameter `PF_MAP` of D9). Lane
`j` of TRIAL starts at `trial + j * trialStride`. -/
structure RegMap where
  cmd : Nat
  status : Nat
  faultCause : Nat
  faultInfo : Nat
  lag : Nat
  gain : Nat
  input : Nat
  output : Nat
  trial : Nat
  trialStride : Nat
  hist : Nat
  damp : Nat
  lastLag : Nat
  lastGain : Nat
  deriving DecidableEq, Repr

/-- The parameters of R8 that are configuration (R10), with `PF_BASE` and `PF_MAP` (D9). -/
structure Config where
  /-- `GAIN_STEP` -/
  gainStep : F64
  /-- `GAIN_MULT_MAX` -/
  gainMultMax : F64
  /-- `ENHANCER` -/
  enhancer : F64
  /-- `FRAME_MS`, in milliseconds -/
  frameMs : Nat
  /-- `SAMPLE_RATE`, in Hz -/
  sampleRate : Nat
  /-- `FRAME_LEN` -/
  frameLen : Nat
  /-- `STEPS` -/
  steps : Nat
  /-- `SAMPLES_PER_STEP` -/
  samplesPerStep : Nat
  /-- `LOOKAHEAD` -/
  lookahead : Nat
  /-- `HIST_LEN` -/
  histLen : Nat
  /-- `FILT_DELAY` -/
  filtDelay : F64
  /-- `UP_RATIO` -/
  upRatio : F64
  /-- `DOWN_RATIO` -/
  downRatio : F64
  /-- `LAG_MIN` -/
  lagMin : F64
  /-- `LAG_MAX` -/
  lagMax : F64
  /-- `LAG_OFFSET_MIN` -/
  lagOffsetMin : Nat
  /-- `LAG_OFFSET_MAX` -/
  lagOffsetMax : Nat
  /-- `RESET_LAG` -/
  resetLag : F64
  /-- `RESET_GAIN` -/
  resetGain : F64
  /-- `INTERP_COEF[r][m]` (R48) -/
  interpCoef : List (List F64)
  /-- `DAMP_COEF[k]` (R48) -/
  dampCoef : List F64
  /-- `PF_BASE`: the host address of the window -/
  pfBase : Nat
  /-- `PF_MAP`: the register map -/
  pfMap : RegMap
  deriving DecidableEq, Repr

/-- `SUBFRAME_LEN`, derived (R8). -/
abbrev Config.subframeLen (c : Config) : Nat := c.steps * c.samplesPerStep
/-- `SEG_LEN`, derived (R8): the length of IN, OUT and each TRIAL lane. -/
abbrev Config.segLen (c : Config) : Nat := c.frameLen + c.lookahead
/-- `WBUF_LEN`, derived (R8). -/
abbrev Config.wbufLen (c : Config) : Nat := c.histLen + c.frameLen + c.lookahead

/-- The arithmetic operators of a frame command, one name each, by the rule that has them. -/
inductive SiteOp where
  /-- `GAIN[m] x ENHANCER` (R174) -/
  | enhance
  /-- `UP_RATIO x OLD_LAG` (R175) -/
  | upRatio
  /-- `DOWN_RATIO x OLD_LAG` (R175) -/
  | downRatio
  /-- `LAG[m] - OLD_LAG` (R178) -/
  | lagDiff
  /-- its division by `STEPS` (R178) -/
  | lagDelta
  /-- `G[m] - OLD_GAIN` (R178) -/
  | gainDiff
  /-- its division by `STEPS` (R178) -/
  | gainDelta
  /-- `W_GAIN + GAIN_DELTA` (R179) -/
  | gainStep
  /-- `W_LAG + LAG_DELTA` (R179) -/
  | lagStep
  /-- `W_LAG + FILT_DELAY` (R151) -/
  | delaySum
  /-- `t + 0.5` (R151) -/
  | halfSum
  /-- `i2f(W_LAG_OFFSET) - t` (R152) -/
  | remainder
  /-- `8.0 x f` (R153) -/
  | rowScale
  /-- `8.0 x f - 0.5` (R153) -/
  | rowShift
  /-- `GMULT[SUB] + GAIN_STEP` (R155) -/
  | multUp
  /-- `GMULT[SUB-1] - GAIN_STEP` (R156) -/
  | multDown
  /-- the product of tap `m` (R123) -/
  | tapMul
  /-- the accumulation of tap `m` (R123) -/
  | tapAdd
  /-- `W_GAIN x p` (R124) -/
  | gainMul
  /-- the product of trial tap `m` (R126) -/
  | trialTapMul
  /-- the accumulation of trial tap `m` (R126) -/
  | trialTapAdd
  /-- `GMULT[j] x p` (R126) -/
  | trialBase
  /-- `W_GAIN x s2` (R126) -/
  | trialGain
  /-- their sum (R126) -/
  | trialSum
  /-- the product of trial damping tap `k` (R127) -/
  | trialDampMul
  /-- the subtraction of trial damping tap `k` (R127) -/
  | trialDampSub
  /-- the product of damping tap `k` (R128) -/
  | dampMul
  /-- the accumulation of damping tap `k` (R128) -/
  | dampAdd
  /-- `IN[INDEX] - s` (R129) -/
  | outSub
  /-- `IN[INDEX] + OUT[INDEX]` (R130) -/
  | histAdd
  deriving DecidableEq, Repr

/-- One operation of one command: its operator, the sub-frame or sample `i`, the step or lane `j`, the tap `k`. Each
operation that a command performs has a site of its own, so each has a free NaN of its own. -/
structure Site where
  op : SiteOp
  i : Nat := 0
  j : Nat := 0
  k : Nat := 0
  deriving DecidableEq, Repr

/-- Free value (R20, U1): the bits of the NaN that an operation of a command gives. The first argument is the
command's draw number. Log entry 5. -/
opaque Config.freeNaN : Nat → Site → F64

/-- Free value (R208, R232, U14): what a command reads from an unwritten operand register. Log entry 4. -/
opaque Config.freeOperand : Nat → Reg → F64

/-- Free value (R232, U3): what a host read that is a violation returns. Log entry 4. -/
opaque Config.freeRead : Nat → Word

end Sys2Proof
end

