-- ==== Sys2Proof/Machine/Defaults.lean ====
section
/-! DEFINITION. The default parameters of R8 and the default tables of spec/93_implementation_defined.md (G1 to G12)
and the register map of R71. They are the spec's recollection of the family's values (log entry 6). Decimal literals
of the spec are written as their nearest binary64 images. -/

namespace Sys2Proof

/-- `INTERP_COEF`, the default table G12: row `r`, tap `m`. -/
def defaultInterpCoef : List (List F64) :=
 [
  [0xBF96EDDB3331ACB8#64, 0x3FB10851099F948C#64, 0xBFC523EC6EB35A1E#64, 0x3FE36CA73C03BA3D#64, 0x3FE4B1E18E8CA4A1#64,
   0xBFC9EB31446581B2#64, 0x3FB9697674996FA6#64, 0xBFA866CE0386ADAF#64, 0x3F91F66C871D593C#64],
  [0xBF94553CF3638596#64, 0x3FADC75053291313#64, 0xBFC1E8A86A323F45#64, 0x3FDC84C76699BC44#64, 0x3FE95144A3028562#64,
   0xBFC9F0CE85C35167#64, 0x3FB889CD2FCF8D8D#64, 0xBFA735E69333A358#64, 0x3F90F032010DBBCA#64],
  [0xBF8DF7E8BB181B20#64, 0x3FA5A8330D527BB7#64, 0xBFB9561EE44B3BEC#64, 0x3FD21A1A9E16E8FE#64, 0x3FECEC5C7464753E#64,
   0xBFC5BB01CC2816FA#64, 0x3FB3B9126BB398E0#64, 0xBFA259E82F82DFC9#64, 0x3F8A89A07D76ED2C#64],
  [0xBF7F540C2185432D#64, 0x3F965D517174BE70#64, 0xBFA986ACB1DD5A76#64, 0x3FC0BF234D4D8436#64, 0x3FEF36E329BC0D41#64,
   0xBFBA0E20D4F1E61C#64, 0x3FA68859980EAA13#64, 0xBF949706E053DC01#64, 0x3F7D7B79F0648FC2#64],
  [0x8000000000000000#64, 0x0000000000000000#64, 0xBD06849B86A12B9B#64, 0x3D06849B86A12B9B#64, 0x3FEFFFFFFFFFFFA6#64,
   0x3D06849B86A12B9B#64, 0xBD06849B86A12B9B#64, 0x0000000000000000#64, 0x8000000000000000#64],
  [0x3F7D7B79F0648FC2#64, 0xBF949706E053DC01#64, 0x3FA68859980EAA13#64, 0xBFBA0E20D4F1E8EC#64, 0x3FEF36E329BC0D9B#64,
   0x3FC0BF234D4D8436#64, 0xBFA986ACB1DD54D5#64, 0x3F965D517174BE70#64, 0xBF7F540C2185432D#64],
  [0x3F8A89A07D7703B1#64, 0xBFA259E82F82E56A#64, 0x3FB3B9126BB39BB1#64, 0xBFC5BB01CC281862#64, 0x3FECEC5C746475F2#64,
   0x3FD21A1A9E16E796#64, 0xBFB9561EE44B391B#64, 0x3FA5A8330D527616#64, 0xBF8DF7E8BB181B20#64],
  [0x3F90F032010DC70C#64, 0xBFA735E69333A8F9#64, 0x3FB889CD2FCF932E#64, 0xBFC9F0CE85C35437#64, 0x3FE95144A3028616#64,
   0x3FDC84C76699BA28#64, 0xBFC1E8A86A323C74#64, 0x3FADC75053290D72#64, 0xBF94553CF3637A54#64]
 ]

/-- `DAMP_COEF`, the default taps G11: -0.07, 0.25, 0.64, 0.25, -0.07. -/
def defaultDampCoef : List F64 :=
  [0xBFB1EB851EB851EC#64, 0x3FD0000000000000#64, 0x3FE47AE147AE147B#64, 0x3FD0000000000000#64, 0xBFB1EB851EB851EC#64]

/-- The register window map of R71. -/
def RegMap.r71 : RegMap where
  cmd := 0x0000
  status := 0x0008
  faultCause := 0x0010
  faultInfo := 0x0018
  lag := 0x0020
  gain := 0x0040
  input := 0x1000
  output := 0x2000
  trial := 0x3000
  trialStride := 0x1000
  hist := 0x8000
  damp := 0x8600
  lastLag := 0x8628
  lastGain := 0x8630

/-- The default configuration (R8). `PF_BASE` has no default in the spec: 0 is the model's (log entry 6). -/
def Config.default : Config where
  gainStep := 0x3FC999999999999A#64
  gainMultMax := 0x3FF0000000000000#64
  enhancer := 0xBFF4CCCCCCCCCCCD#64
  frameMs := 30
  sampleRate := 8000
  frameLen := 240
  steps := 5
  samplesPerStep := 12
  lookahead := 24
  histLen := 190
  filtDelay := 0x3FF8000000000000#64
  upRatio := 0x3FF8000000000000#64
  downRatio := 0x3FE570A3D70A3D71#64
  lagMin := 0x4034000000000000#64
  lagMax := 0x4061800000000000#64
  lagOffsetMin := 9
  lagOffsetMax := 190
  resetLag := 0x4049000000000000#64
  resetGain := 0x0000000000000000#64
  interpCoef := defaultInterpCoef
  dampCoef := defaultDampCoef
  pfBase := 0
  pfMap := RegMap.r71

end Sys2Proof
end

