-- ==== Sys2Proof/Machine/Float.lean ====
section
/-! DEFINITION. IEEE 754 binary64 arithmetic with roundTiesToEven (R13, R14, R16, R17, R72).

A finite binary64 value is a whole multiple of the smallest subnormal `2^-1074`. Each operation computes its exact
result in that unit (as an integer, or as a fraction `n / d` of integers) and narrows once, in `roundMag`. An
operation whose result is a NaN gives the NaN its first argument offers (R20: the bits of a NaN result are free). -/

namespace Sys2Proof.F64

/-- The image without its sign bit (R72: bits 62:0). -/
def magBits (x : F64) : Nat := x.toNat % 2 ^ 63

/-- The magnitude image of infinity: exponent field all ones, fraction 0. -/
def infBits : Nat := 0x7FF * 2 ^ 52

/-- Exponent field all ones and a nonzero fraction. -/
def isNaN (x : F64) : Bool := decide (infBits < magBits x)

/-- An infinity of either sign. -/
def isInf (x : F64) : Bool := decide (magBits x = infBits)

/-- Neither infinite nor NaN. -/
def isFinite (x : F64) : Bool := decide (magBits x < infBits)

/-- The value of a finite magnitude image, in units of `2^-1074`: subnormals and the lowest normal binade have
unit step, each further binade doubles it. -/
def unitsOf (m : Nat) : Nat :=
  if m / 2 ^ 52 = 0 then m else (2 ^ 52 + m % 2 ^ 52) * 2 ^ (m / 2 ^ 52 - 1)

/-- The magnitude of a finite `x` in units of `2^-1074`. -/
def units (x : F64) : Nat := unitsOf (magBits x)

/-- One, in units of `2^-1074`. -/
def oneUnits : Nat := 2 ^ 1074

/-- The exact value of a finite `x` in units of `2^-1074`. -/
def toInt (x : F64) : Int := if x.msb then -(units x : Int) else (units x : Int)

/-- The image with sign `neg` and magnitude image `m`. -/
def make (neg : Bool) (m : Nat) : F64 := BitVec.ofNat 64 (if neg then 2 ^ 63 + m else m)

/-- `n / d` to the nearest integer, a tie to the even one (R14, R16). -/
def rneDiv (n d : Nat) : Nat :=
  let q := n / d
  let r := n % d
  if d < 2 * r ∨ (2 * r = d ∧ q % 2 = 1) then q + 1 else q

/-- The magnitude image nearest to `n / d` units, ties to even, infinity on overflow (R14). `e` is the number of
binades above the lowest; the sum carries into the exponent field when the fraction rounds up to a power of two. -/
def roundMag (n d : Nat) : Nat :=
  let e := Nat.log2 (n / d) - 52
  min (e * 2 ^ 52 + rneDiv n (d * 2 ^ e)) infBits

/-- The free bits `draw` as a NaN: every NaN is such a result, and nothing else is (R20). -/
def asNaN (draw : F64) : F64 := if isNaN draw then draw else 0x7FF8000000000000#64

/-- `-a`: the sign bit flipped, exact (R14). -/
def neg (a : F64) : F64 := a ^^^ 0x8000000000000000#64

/-- `a + b` (R14). An exact zero sum is `+0.0` unless both operands are negative. -/
def add (nan a b : F64) : F64 :=
  if isNaN a || isNaN b then asNaN nan
  else if isInf a then
    if isInf b && (a.msb != b.msb) then asNaN nan else a
  else if isInf b then b
  else if toInt a + toInt b = 0 then make (a.msb && b.msb) 0
  else make (decide (toInt a + toInt b < 0)) (roundMag (toInt a + toInt b).natAbs 1)

/-- `a - b` (R14): the sum of `a` and `-b`. -/
def sub (nan a b : F64) : F64 := add nan a (neg b)

/-- `a x b` (R14). -/
def mul (nan a b : F64) : F64 :=
  if isNaN a || isNaN b then asNaN nan
  else if isInf a || isInf b then
    if magBits a = 0 ∨ magBits b = 0 then asNaN nan else make (a.msb != b.msb) infBits
  else make (a.msb != b.msb) (roundMag (units a * units b) oneUnits)

/-- `a / b` (R14). -/
def div (nan a b : F64) : F64 :=
  if isNaN a || isNaN b then asNaN nan
  else if isInf a then
    if isInf b then asNaN nan else make (a.msb != b.msb) infBits
  else if isInf b then make (a.msb != b.msb) 0
  else if magBits b = 0 then
    if magBits a = 0 then asNaN nan else make (a.msb != b.msb) infBits
  else make (a.msb != b.msb) (roundMag (units a * oneUnits) (units b))

/-- The place of a non-NaN value on the line: images of one sign are ordered as their magnitudes, and both zeros
are one point. -/
def lineKey (x : F64) : Int := if x.msb then -(magBits x : Int) else (magBits x : Int)

/-- `a < b`, false when either is a NaN (R14). -/
def lt (a b : F64) : Bool := !isNaN a && !isNaN b && decide (lineKey a < lineKey b)

/-- `a <= b`, false when either is a NaN (R14). -/
def le (a b : F64) : Bool := !isNaN a && !isNaN b && decide (lineKey a ≤ lineKey b)

/-- `i2f(n)` (R17): exact for `|n| < 2^53`. -/
def i2f (n : Int) : F64 := make (decide (n < 0)) (roundMag (n.natAbs * oneUnits) 1)

/-- `rne(x)` (R16): the nearest integer, ties to even; undefined (`none`) unless `x` is finite and `|x| < 2^31`. -/
def rne (x : F64) : Option Int :=
  if isFinite x ∧ units x < 2 ^ 31 * oneUnits then
    some (if x.msb then -(rneDiv (units x) oneUnits : Int) else (rneDiv (units x) oneUnits : Int))
  else none

/-- `+0.0` -/
def zero : F64 := 0x0000000000000000#64
/-- `0.5` -/
def half : F64 := 0x3FE0000000000000#64
/-- `1.0` -/
def one : F64 := 0x3FF0000000000000#64
/-- `8.0` -/
def eight : F64 := 0x4020000000000000#64

end Sys2Proof.F64
end

