-- ==== Sys2Proof/Machine/Window.lean ====
section
/-! DEFINITION. The register window (R70, R71): where each register lies, and which register lies at an offset. -/

namespace Sys2Proof

/-- A row of the map: `count` registers of 8 bytes from offset `base`; entry `k` is `reg k`. -/
structure Region where
  base : Nat
  count : Nat
  reg : Nat → Reg

/-- The rows of R71 for a configuration, TRIAL as one row a lane. -/
def regions (c : Config) : List Region :=
  [ ⟨c.pfMap.cmd, 1, fun _ => .cmd⟩,
    ⟨c.pfMap.status, 1, fun _ => .status⟩,
    ⟨c.pfMap.faultCause, 1, fun _ => .faultCause⟩,
    ⟨c.pfMap.faultInfo, 1, fun _ => .faultInfo⟩,
    ⟨c.pfMap.lag, subframes, .lag⟩,
    ⟨c.pfMap.gain, subframes, .gain⟩,
    ⟨c.pfMap.input, c.segLen, .input⟩,
    ⟨c.pfMap.output, c.segLen, .output⟩,
    ⟨c.pfMap.trial + 0 * c.pfMap.trialStride, c.segLen, .trial 0⟩,
    ⟨c.pfMap.trial + 1 * c.pfMap.trialStride, c.segLen, .trial 1⟩,
    ⟨c.pfMap.trial + 2 * c.pfMap.trialStride, c.segLen, .trial 2⟩,
    ⟨c.pfMap.trial + 3 * c.pfMap.trialStride, c.segLen, .trial 3⟩,
    ⟨c.pfMap.hist, c.histLen, .hist⟩,
    ⟨c.pfMap.damp, dampTaps, .damp⟩,
    ⟨c.pfMap.lastLag, 1, fun _ => .lastLag⟩,
    ⟨c.pfMap.lastGain, 1, fun _ => .lastGain⟩ ]

/-- The register of a row at byte offset `off`, where one starts there. -/
def Region.regAt (r : Region) (off : Nat) : Option Reg :=
  if r.base ≤ off ∧ off < r.base + 8 * r.count ∧ (off - r.base) % 8 = 0 then
    some (r.reg ((off - r.base) / 8))
  else none

/-- The register at byte offset `off`; `none` where the map has none (R71: unmapped). -/
def decodeOffset (c : Config) (off : Nat) : Option Reg :=
  (regions c).findSome? (·.regAt off)

/-- The byte offset of a register (R71). -/
def offsetOf (c : Config) : Reg → Nat
  | .cmd => c.pfMap.cmd
  | .status => c.pfMap.status
  | .faultCause => c.pfMap.faultCause
  | .faultInfo => c.pfMap.faultInfo
  | .lag m => c.pfMap.lag + 8 * m
  | .gain m => c.pfMap.gain + 8 * m
  | .input k => c.pfMap.input + 8 * k
  | .output k => c.pfMap.output + 8 * k
  | .trial j k => c.pfMap.trial + j * c.pfMap.trialStride + 8 * k
  | .hist k => c.pfMap.hist + 8 * k
  | .damp k => c.pfMap.damp + 8 * k
  | .lastLag => c.pfMap.lastLag
  | .lastGain => c.pfMap.lastGain

/-- The registers a configuration has: array indices in range (R71). -/
def Reg.inMap (c : Config) : Reg → Bool
  | .lag m | .gain m => decide (m < subframes)
  | .input k | .output k => decide (k < c.segLen)
  | .trial j k => decide (j < subframes ∧ k < c.segLen)
  | .hist k => decide (k < c.histLen)
  | .damp k => decide (k < dampTaps)
  | _ => true

/-- The registers the host may not write (R71, access column). -/
def Reg.readOnly : Reg → Bool
  | .status | .faultCause | .faultInfo | .output _ | .trial _ _ => true
  | _ => false

/-- The registers the host may read while `STATUS.BUSY = 1` (R79). -/
def Reg.readableWhileBusy : Reg → Bool
  | .cmd | .status | .faultCause | .faultInfo => true
  | _ => false

/-- Two rows of the map share no byte. -/
def Region.disjoint (r q : Region) : Bool :=
  decide (r.base + 8 * r.count ≤ q.base ∨ q.base + 8 * q.count ≤ r.base)

/-- The map is usable: every row is 8-byte aligned and inside the window, and no two rows overlap. -/
def mapOk (c : Config) : Bool :=
  ((regions c).all fun r => decide (r.base % 8 = 0 ∧ r.base + 8 * r.count ≤ windowBytes)) &&
  decide ((regions c).Pairwise fun r q => r.disjoint q = true)

end Sys2Proof
end

