-- ==== Sys2Proof/Syntax.lean ====
section
/-! DEFINITION. The instruction set: the six commands of spec/opcode_table.json (R101). No command has an explicit
operand (R104). -/

namespace Sys2Proof

/-- The commands of the opcode map (R101). -/
inductive Instr where
  /-- `PF_PRE`, opcode 1: pre-filter one frame (R202). -/
  | pfPre
  /-- `PF_PRE_LA`, opcode 2: pre-filter one frame and the lookahead (R203). -/
  | pfPreLa
  /-- `PF_PRE_GAIN`, opcode 3: gain-search pre-filter (R204). -/
  | pfPreGain
  /-- `PF_POST`, opcode 4: post-filter one frame (R205). -/
  | pfPost
  /-- `PF_INIT`, opcode 5: initialise FilterState (R206). -/
  | pfInit
  /-- `PF_CLRSTAT`, opcode 6: clear the recorded fault (R207). -/
  | pfClrstat
  deriving DecidableEq, Repr

end Sys2Proof
end

