-- ==== Sys2Proof/WellFormed.lean ====
section
/-! DEFINITION. Well-formed command words (R100 to R102) and well-formed configurations (R9). An instruction has no
operand (R104), so every term of `Instr` is well-formed. -/

namespace Sys2Proof

/-- `OPC`, bits 3:0 of a command word (R100). -/
def opcOf (v : Word) : BitVec 4 := v.extractLsb' 0 4

/-- `RSV`, bits 63:4 of a command word (R100). -/
def rsvOf (v : Word) : BitVec 60 := v.extractLsb' 4 60

/-- A word selects a command exactly when `RSV = 0` and `OPC` is in the opcode map (R101). -/
def commandWordOk (v : Word) : Bool :=
  decide (rsvOf v = 0#60) && decide (1#4 ≤ opcOf v) && decide (opcOf v ≤ 6#4)

/-- No field of an instruction can be out of range: there is none (R104). -/
def Instr.wf (_ : Instr) : Bool := true

/-- `FRAME_LEN = SUBFRAMES x STEPS x SAMPLES_PER_STEP` (R9), with no empty step, and the frame's duration (R8). -/
abbrev Config.frameOk (c : Config) : Prop :=
  c.frameLen = subframes * c.steps * c.samplesPerStep ∧ 0 < c.steps ∧ 0 < c.samplesPerStep ∧
  c.frameLen * 1000 = c.frameMs * c.sampleRate

/-- `HIST_LEN >= LAG_MAX + LOOKAHEAD` (R9), as exact numbers. -/
abbrev Config.historyOk (c : Config) : Prop :=
  F64.toInt c.lagMax + c.lookahead * F64.oneUnits ≤ c.histLen * F64.oneUnits

/-- `INTERP_TAPS <= LAG_OFFSET_MIN <= LAG_OFFSET_MAX <= HIST_LEN` (R9). -/
abbrev Config.offsetsOk (c : Config) : Prop :=
  interpTaps ≤ c.lagOffsetMin ∧ c.lagOffsetMin ≤ c.lagOffsetMax ∧ c.lagOffsetMax ≤ c.histLen

/-- The lag bounds are numbers, `LAG_MIN + FILT_DELAY >= LAG_OFFSET_MIN` and
`LAG_MAX + FILT_DELAY + 1 <= LAG_OFFSET_MAX` (R9), as exact numbers. -/
abbrev Config.lagsOk (c : Config) : Prop :=
  F64.isFinite c.lagMin = true ∧ F64.isFinite c.lagMax = true ∧ F64.isFinite c.filtDelay = true ∧
  (c.lagOffsetMin * F64.oneUnits : Int) ≤ F64.toInt c.lagMin + F64.toInt c.filtDelay ∧
  F64.toInt c.lagMax + F64.toInt c.filtDelay + F64.oneUnits ≤ (c.lagOffsetMax * F64.oneUnits : Int)

/-- The tables have the shapes of R8: 8 rows of 9 taps, and 5 taps. -/
abbrev Config.tablesOk (c : Config) : Prop :=
  c.interpCoef.length = fracRows ∧ (∀ row ∈ c.interpCoef, row.length = interpTaps) ∧
  c.dampCoef.length = dampTaps

/-- Every buffer position fits in a signed 32-bit register (R52). -/
abbrev Config.sizesOk (c : Config) : Prop := c.wbufLen < 2 ^ 31

/-- The register map is usable, and is R71's where R71 gives one. -/
abbrev Config.mapFits (c : Config) : Prop :=
  mapOk c = true ∧ (c.segLen ≤ 512 ∧ c.histLen ≤ 192 → c.pfMap = RegMap.r71)

/-- The constraints on the parameters: those of R9, and the shapes and sizes R8, R52 and R71 give (log
entry 11). -/
abbrev Config.wf (c : Config) : Prop :=
  c.frameOk ∧ c.historyOk ∧ c.offsetsOk ∧ c.lagsOk ∧ c.tablesOk ∧ c.sizesOk ∧ c.mapFits

end Sys2Proof
end

