-- ==== Sys2Proof/Decode.lean ====
section
/-! DEFINITION. Decoding and encoding command words (R100 to R103). Decoding is total: a word selects one command or
is illegal, with the opcode it is reported by. -/

namespace Sys2Proof

/-- What a decoder answers (R103): a command, or `IllegalCommand` with the word's bits 3:0; and a rejection by name
for bytes that are not one whole word (R100: every command is exactly one word). -/
inductive Decoded where
  | command (i : Instr)
  | illegalCommand (opc : BitVec 4)
  | notOneWord
  deriving DecidableEq, Repr

/-- The command of an opcode (R101). -/
def commandOf (opc : BitVec 4) : Option Instr :=
  match opc.toNat with
  | 1 => some .pfPre
  | 2 => some .pfPreLa
  | 3 => some .pfPreGain
  | 4 => some .pfPost
  | 5 => some .pfInit
  | 6 => some .pfClrstat
  | _ => none

/-- `decode(v)` of R103. -/
def decode (v : Word) : Decoded :=
  if rsvOf v = 0#60 then
    match commandOf (opcOf v) with
    | some i => .command i
    | none => .illegalCommand (opcOf v)
  else .illegalCommand (opcOf v)

/-- The word whose bytes, lowest address first, are `bs` (R73: little-endian). -/
def wordOfBytes (bs : List Byte) : Word :=
  BitVec.ofNat 64 (bs.foldr (fun b acc => b.toNat + 256 * acc) 0)

/-- Byte `i` of a word as the window shows it: bits `8i+7 : 8i` (R73). -/
def byteOfWord (v : Word) (i : Nat) : Byte := v.extractLsb' (8 * i) 8

/-- The eight bytes of a word, lowest address first (R73). -/
def bytesOfWord (v : Word) : List Byte := (List.range 8).map (byteOfWord v)

/-- Decode the bytes of a command word. -/
def decodeBytes (bs : List Byte) : Decoded :=
  if bs.length = 8 then decode (wordOfBytes bs) else .notOneWord

/-- The opcode of a command (R101). -/
def opcodeOf : Instr → BitVec 4
  | .pfPre => 0x1#4
  | .pfPreLa => 0x2#4
  | .pfPreGain => 0x3#4
  | .pfPost => 0x4#4
  | .pfInit => 0x5#4
  | .pfClrstat => 0x6#4

/-- The command word of a command: `OPC` in bits 3:0, `RSV` zero (R100). -/
def encode (i : Instr) : Word := 0#60 ++ opcodeOf i

/-- The instruction the decoder reads from the bits `w` of an opcode-table row of `nbits` bits; bits above `nbits`
are 0. -/
def decodeTableWord (nbits w : Nat) : Option Instr :=
  match decodeBytes (bytesOfWord (BitVec.ofNat 64 (w % 2 ^ nbits))) with
  | .command i => some i
  | _ => none

end Sys2Proof
end

