-- ==== Sys2Proof/Machine/State.lean ====
section
/-! DEFINITION. The machine's state as plain data: the spec's state (R30 to R50), the model's own bookkeeping, and the
state after reset (R51). -/

namespace Sys2Proof.Machine

/-- The mode tag of a frame command (R46, R101). -/
inductive Mode where
  | pre
  | preLa
  | preGain
  | post
  deriving DecidableEq, Repr

/-- The sequencer phase (R47). -/
inductive Phase where
  | idle
  | validate
  | subframes
  | exporting
  | lookahead
  deriving DecidableEq, Repr

/-- The host violations (R232), which only the model's fault record shows (R230). -/
inductive Violation where
  /-- An access that is not 8 bytes wide, not 8-byte aligned, to an unmapped offset, or a write to a read-only
  register (R74 to R76). -/
  | accessFault
  /-- While busy, a write, or a read of a register that may not be read then (R79). -/
  | busyAccess
  /-- A read of a data register whose written mark is clear, by the host or by a frame command (R49, R208). -/
  | unwrittenRead
  deriving DecidableEq, Repr

/-- The causes of an architectural fault (R231). Cause 3, `InvalidBufferSize`, is reserved and never raised (R233). -/
inductive FaultCause where
  | illegalCommand
  | invalidLagRange
  | invalidBufferSize
  | lagOffsetRange
  | fractionIndexRange
  deriving DecidableEq, Repr

/-- The cause and the information value of an architectural fault: the arguments of `raise Fault(cause, info)`. -/
structure CommandFault where
  cause : FaultCause
  info : Nat
  deriving DecidableEq, Repr

/-- One entry of a data register: its value and its written mark (R49). -/
structure Slot where
  value : F64
  written : Bool
  deriving DecidableEq, Repr

/-- An entry nothing has written since reset. No rule reads its value: an unmarked read gives a free value. -/
def Slot.unwritten : Slot := ⟨F64.zero, false⟩

/-- The working state of a frame command: the source's FilterParameters (R46) and the sequencer state (R47). -/
structure Work where
  /-- `WBUF` -/
  wbuf : List F64
  /-- `WDAMP`, newest at 0 -/
  wdamp : List F64
  /-- `ROW` -/
  row : Int
  /-- `W_GAIN` -/
  wGain : F64
  /-- `W_LAG` -/
  wLag : F64
  /-- `W_LAG_OFFSET` -/
  lagOffset : Int
  /-- `SUB` -/
  sub : Nat
  /-- `MODE` -/
  mode : Mode
  /-- `NSAMP` -/
  nsamp : Nat
  /-- `INDEX` -/
  index : Nat
  /-- `DDG[j][k]` -/
  ddg : List (List F64)
  /-- `GMULT[j]` -/
  gmult : List F64
  /-- `G[m]` -/
  g : List F64
  /-- `OLD_LAG` -/
  oldLag : F64
  /-- `OLD_GAIN` -/
  oldGain : F64
  /-- `FALLBACK` -/
  fallback : Bool
  /-- `LAG_DELTA` -/
  lagDelta : F64
  /-- `GAIN_DELTA` -/
  gainDelta : F64
  /-- `STEP` -/
  stepNo : Nat
  /-- `PHASE` -/
  phase : Phase
  deriving DecidableEq, Repr

/-- An event of the order of R80: what happens next, and to whom the turn goes. -/
inductive Event where
  /-- The host reads `width` bytes at host address `addr`. -/
  | read (addr width : Nat)
  /-- The host writes `width` bytes at host address `addr`. -/
  | write (addr width : Nat) (value : Word)
  /-- The host polls STATUS until BUSY is 0 (R106 `wait`). Where the block is busy, it has its turn after `polls + 1`
  polls that read BUSY = 1 (DESIGN CHOICE, log entry 18). -/
  | wait (polls : Nat)
  /-- The block's turn: it performs its pending command, if it has one. -/
  | block
  /-- A reset (R260). -/
  | reset
  deriving DecidableEq, Repr

/-- The whole machine. -/
structure State where
  /-- The configuration (R8). No step writes it. -/
  cfg : Config
  /-- `HIST`, oldest first (R32) -/
  hist : List F64
  /-- `DAMP`, newest first (R33) -/
  damp : List F64
  /-- `LAST_LAG` (R34) -/
  lastLag : F64
  /-- `LAST_GAIN` (R35) -/
  lastGain : F64
  /-- `LAG` (R37) -/
  lag : List Slot
  /-- `GAIN` (R38) -/
  gain : List Slot
  /-- `IN` (R39) -/
  input : List Slot
  /-- `OUT` (R40) -/
  output : List Slot
  /-- `TRIAL`, one list a lane (R41) -/
  trial : List (List Slot)
  /-- `CMD` (R42) -/
  cmd : Word
  /-- `STATUS` (R43) -/
  status : Word
  /-- `FAULT_CAUSE` (R44) -/
  faultCause : Word
  /-- `FAULT_INFO` (R45) -/
  faultInfo : Word
  /-- The accepted command word that the block has not yet performed (R200). -/
  pending : Option Word
  /-- The working and sequencer state (R46, R47). -/
  work : Work
  /-- The fault record: host violations, oldest first (R50). -/
  record : List Violation
  /-- The model's own: the number of draws of free values so far (log entry 4). -/
  draws : Nat
  /-- The model's own: the events to come, in order (log entry 1). -/
  inputs : List Event
  /-- The model's own: the values returned to the host, newest first (log entry 1). -/
  responses : List Word
  deriving DecidableEq, Repr

/-- A reason for the machine to stop. There is none: an architectural fault is a next state (R235), a host violation
is recorded and the machine goes on (R232), and no behaviour is stuck (93: "No behaviour of this block is treated as
`stuck`"). Nothing raises it, which is safe and unsafe for nobody. -/
inductive Fault where
  deriving DecidableEq, Repr

/-- A reason for the model to refuse an instruction. -/
inductive Refusal where
  /-- Raised only by an arm of `exec` whose instruction has no meaning yet; safe. No arm raises it now. -/
  | notModelled (mnemonic : String)
  deriving DecidableEq, Repr

/-- The working state between commands: `PHASE = IDLE` (R51). The rest is unspecified, and no rule reads it before a
frame command writes it; zeros are the model's (log entry 3). -/
def Work.idle (c : Config) : Work where
  wbuf := List.replicate c.wbufLen F64.zero
  wdamp := List.replicate dampTaps F64.zero
  row := 0
  wGain := F64.zero
  wLag := F64.zero
  lagOffset := 0
  sub := 0
  mode := .pre
  nsamp := 0
  index := 0
  ddg := List.replicate subframes (List.replicate dampTaps F64.zero)
  gmult := List.replicate subframes F64.zero
  g := List.replicate subframes F64.zero
  oldLag := F64.zero
  oldGain := F64.zero
  fallback := false
  lagDelta := F64.zero
  gainDelta := F64.zero
  stepNo := 0
  phase := .idle

/-- The reset table of R51 for a configuration. The fields a reset does not give a value (the fault record, R260, and
the model's own) are at their first values. -/
def State.initial (c : Config) : State where
  cfg := c
  hist := List.replicate c.histLen F64.zero
  damp := List.replicate dampTaps F64.zero
  lastLag := c.resetLag
  lastGain := c.resetGain
  lag := List.replicate subframes Slot.unwritten
  gain := List.replicate subframes Slot.unwritten
  input := List.replicate c.segLen Slot.unwritten
  output := List.replicate c.segLen Slot.unwritten
  trial := List.replicate subframes (List.replicate c.segLen Slot.unwritten)
  cmd := 0
  status := 0
  faultCause := 0
  faultInfo := 0
  pending := none
  work := Work.idle c
  record := []
  draws := 0
  inputs := []
  responses := []

/-- The machine right after reset, with the default configuration. -/
def State.reset : State := State.initial Config.default

/-- The one canonical form of the window's storage: each register array is exactly as long as the map of R71 says, so
that equal windows are equal data. -/
abbrev Memory.wf (s : State) : Prop :=
  s.hist.length = s.cfg.histLen ∧ s.damp.length = dampTaps ∧
  s.lag.length = subframes ∧ s.gain.length = subframes ∧
  s.input.length = s.cfg.segLen ∧ s.output.length = s.cfg.segLen ∧
  s.trial.length = subframes ∧ ∀ lane ∈ s.trial, lane.length = s.cfg.segLen

end Sys2Proof.Machine
end

