-- ==== Sys2Proof/Machine/Flags.lean ====
section
/-! DEFINITION. The bits of STATUS (R43) and the contents of FAULT_CAUSE and FAULT_INFO (R44, R45, R231). -/

namespace Sys2Proof.Machine

/-- `STATUS.BUSY`, bit 0 (R43). -/
def busyBit : Nat := 0
/-- `STATUS.DONE`, bit 1 (R43). -/
def doneBit : Nat := 1
/-- `STATUS.FAULT`, bit 2 (R43). -/
def faultBit : Nat := 2

/-- A word with bit `i` set to `b` and every other bit as it was. -/
def putBit (w : Word) (i : Nat) (b : Bool) : Word :=
  if b then w ||| (1#64 <<< i) else w &&& ~~~(1#64 <<< i)

/-- `STATUS.BUSY` -/
def State.busy (s : State) : Bool := s.status.getLsbD busyBit
/-- `STATUS.DONE` -/
def State.done (s : State) : Bool := s.status.getLsbD doneBit
/-- `STATUS.FAULT` -/
def State.faulted (s : State) : Bool := s.status.getLsbD faultBit

/-- STATUS at the acceptance of a command (R200): BUSY set, DONE cleared. -/
def statusAccepted (w : Word) : Word := putBit (putBit w busyBit true) doneBit false

/-- STATUS when a command completed (R200): BUSY cleared, DONE set. -/
def statusCompleted (w : Word) : Word := putBit (putBit w busyBit false) doneBit true

/-- STATUS when a command faulted (R235): BUSY and DONE cleared, FAULT set. -/
def statusFaulted (w : Word) : Word :=
  putBit (putBit (putBit w busyBit false) doneBit false) faultBit true

/-- STATUS with the recorded fault cleared (R207). -/
def statusCleared (w : Word) : Word := putBit w faultBit false

/-- The code of a cause (R231). -/
def FaultCause.code : FaultCause → BitVec 8
  | .illegalCommand => 1#8
  | .invalidLagRange => 2#8
  | .invalidBufferSize => 3#8
  | .lagOffsetRange => 4#8
  | .fractionIndexRange => 5#8

/-- FAULT_CAUSE for a cause: the code in bits 7:0, the rest 0 (R44). -/
def causeWord (c : FaultCause) : Word := c.code.setWidth 64

/-- FAULT_INFO for an information value: bits 15:0, the rest 0 (R45). -/
def infoWord (info : Nat) : Word := (BitVec.ofNat 16 info).setWidth 64

end Sys2Proof.Machine
end

