-- ==== Sys2Proof/Machine/Ops.lean ====
section
/-! DEFINITION. The shared operations over the registers: reading and writing one window register, the fault record,
acceptance and completion of a command (R200), taking a fault and returning from one (R235, R236, R207), and reset
(R260). -/

namespace Sys2Proof.Machine

/-- The loops of R18: `f start`, `f (start + 1)`, ..., `count` times. -/
def forLoop {α : Type} (f : Nat → α → α) : Nat → Nat → α → α
  | 0, _, a => a
  | count + 1, start, a => forLoop f count (start + 1) (f start a)

/-- The 64 bits a window register holds (R71, R72). -/
def peek (s : State) : Reg → Word
  | .cmd => s.cmd
  | .status => s.status
  | .faultCause => s.faultCause
  | .faultInfo => s.faultInfo
  | .lag m => (s.lag.getD m Slot.unwritten).value
  | .gain m => (s.gain.getD m Slot.unwritten).value
  | .input k => (s.input.getD k Slot.unwritten).value
  | .output k => (s.output.getD k Slot.unwritten).value
  | .trial j k => ((s.trial.getD j []).getD k Slot.unwritten).value
  | .hist k => s.hist.getD k F64.zero
  | .damp k => s.damp.getD k F64.zero
  | .lastLag => s.lastLag
  | .lastGain => s.lastGain

/-- The written mark of a window register (R49); a register outside LAG, GAIN, IN, OUT and TRIAL needs none and is
readable from reset on. -/
def marked (s : State) : Reg → Bool
  | .lag m => (s.lag.getD m Slot.unwritten).written
  | .gain m => (s.gain.getD m Slot.unwritten).written
  | .input k => (s.input.getD k Slot.unwritten).written
  | .output k => (s.output.getD k Slot.unwritten).written
  | .trial j k => ((s.trial.getD j []).getD k Slot.unwritten).written
  | _ => true

/-- The bytes of the window (R73): byte `a + i` of the register at `a` is its bits `8i+7 : 8i`; `none` where no
register lies. -/
def windowByte (s : State) (off : Nat) : Option Byte :=
  (decodeOffset s.cfg (off - off % 8)).map fun r => byteOfWord (peek s r) (off % 8)

/-- A host write to a read/write register other than CMD: the value is stored unchecked and the entry is marked
(R49, R76). -/
def poke (r : Reg) (v : Word) (s : State) : State :=
  match r with
  | .lag m => { s with lag := s.lag.set m ⟨v, true⟩ }
  | .gain m => { s with gain := s.gain.set m ⟨v, true⟩ }
  | .input k => { s with input := s.input.set k ⟨v, true⟩ }
  | .hist k => { s with hist := s.hist.set k v }
  | .damp k => { s with damp := s.damp.set k v }
  | .lastLag => { s with lastLag := v }
  | .lastGain => { s with lastGain := v }
  | .cmd | .status | .faultCause | .faultInfo | .output _ | .trial _ _ => s

/-- `model_fault(reason)`: the violation joins the fault record and no register changes (R232). -/
def violate (v : Violation) (s : State) : State := { s with record := s.record ++ [v] }

/-- A value is returned to the host. -/
def respond (v : Word) (s : State) : State := { s with responses := v :: s.responses }

/-- A violating read returns any 64-bit value (R232): a free value, a new one at each draw. -/
def respondFree (s : State) : State :=
  { s with responses := Config.freeRead s.draws :: s.responses, draws := s.draws + 1 }

/-- Acceptance of a command word (R200, item 4). -/
def accept (v : Word) (s : State) : State :=
  { s with status := statusAccepted s.status, pending := some v }

/-- A write of `v` to CMD while the block is idle (R200, items 2 to 4): `v` is stored; while a fault is recorded every
word but `PF_CLRSTAT`'s is ignored; otherwise `v` is accepted. -/
def issueCommand (v : Word) (s : State) : State :=
  if s.faulted = true ∧ v ≠ encode .pfClrstat then { s with cmd := v }
  else accept v { s with cmd := v }

/-- Completion of the pending command without a fault (R200). -/
def complete (s : State) : State :=
  { s with status := statusCompleted s.status, pending := none }

/-- Taking an architectural fault (R235): the status registers are written, nothing else; the command is over. -/
def takeFault (f : CommandFault) (s : State) : State :=
  { s with
    status := statusFaulted s.status
    faultCause := causeWord f.cause
    faultInfo := infoWord f.info
    pending := none }

/-- The return from a fault (R207, R236): the recorded fault is cleared. -/
def clearFault (s : State) : State :=
  { s with status := statusCleared s.status, faultCause := 0, faultInfo := 0 }

/-- FilterState at its reset values (R206, R262). -/
def initFilterState (s : State) : State :=
  { s with
    hist := List.replicate s.cfg.histLen F64.zero
    damp := List.replicate dampTaps F64.zero
    lastLag := s.cfg.resetLag
    lastGain := s.cfg.resetGain }

/-- The fault an accepted illegal word raises (R102, R201): `IllegalCommand` with its bits 3:0. -/
def illegalCommandFault (opc : BitVec 4) : CommandFault := ⟨.illegalCommand, opc.toNat⟩

/-- A reset (R260): every element of R51 at its reset value, every mark clear, a pending command discarded. The fault
record survives. The model's own fields stay (log entry 12). -/
def applyReset (s : State) : State :=
  { State.initial s.cfg with
    record := s.record
    draws := s.draws
    inputs := s.inputs
    responses := s.responses }

/-- The command word the block performs next, if one is pending (R80, R200). -/
def fetch (s : State) : Option Word := s.pending

/-- The state in which the command word `w` has been accepted and the block has the next turn (log entry 1). -/
def withPending (w : Word) (s : State) : State :=
  { accept w { s with cmd := w } with inputs := .block :: s.inputs }

end Sys2Proof.Machine
end

