-- ==== Sys2Proof/Machine/ControlCommands.lean ====
section
/-! DEFINITION. The meanings of the control commands (R206, R207). -/

namespace Sys2Proof.Machine

/-- `PF_INIT` (R206): FilterState at its reset values, then completion. -/
def execPfInit (s : State) : Host.Outcome State Fault Refusal := .next (complete (initFilterState s))

/-- `PF_CLRSTAT` (R207): the recorded fault cleared, then completion. -/
def execPfClrstat (s : State) : Host.Outcome State Fault Refusal := .next (complete (clearFault s))

end Sys2Proof.Machine
end

