-- ==== Sys2Proof/Machine/Operands.lean ====
section
/-! DEFINITION. The implicit operands of a frame command (R104, R208). -/

namespace Sys2Proof.Machine

/-- The modes that filter the lookahead segment (R183). -/
def Mode.looksAhead : Mode → Bool
  | .preLa | .preGain => true
  | .pre | .post => false

/-- The modes that export FilterState (R181, R182). -/
def Mode.exports : Mode → Bool
  | .preGain => false
  | .pre | .preLa | .post => true

/-- The number of IN entries a mode reads, and of OUT entries it writes (R39, R40). -/
def samplesOf (mode : Mode) (c : Config) : Nat := if mode.looksAhead then c.segLen else c.frameLen

/-- The operand values of one command, in index order. -/
structure Operands where
  lag : List F64
  gain : List F64
  input : List F64
  deriving DecidableEq, Repr

/-- What a command reads from an operand register: its value, or a free value where nothing has written it (R208). -/
def readOperand (s : State) (r : Reg) : F64 :=
  if marked s r then peek s r else Config.freeOperand s.draws r

/-- The operand registers a mode reads, in order (R208). -/
def operandRegs (mode : Mode) (c : Config) : List Reg :=
  (List.range subframes).map .lag ++ (List.range subframes).map .gain ++
    (List.range (samplesOf mode c)).map .input

/-- The operand values of a command of a mode. -/
def operandsOf (mode : Mode) (s : State) : Operands where
  lag := (List.range subframes).map fun m => readOperand s (.lag m)
  gain := (List.range subframes).map fun m => readOperand s (.gain m)
  input := (List.range (samplesOf mode s.cfg)).map fun k => readOperand s (.input k)

/-- Reading the operands records `UnwrittenRead` once for each unmarked entry (R208) and uses one draw. -/
def noteOperands (mode : Mode) (s : State) : State :=
  { s with
    record := s.record ++
      ((operandRegs mode s.cfg).filter fun r => !marked s r).map fun _ => .unwrittenRead
    draws := s.draws + 1 }

/-- `LAG[m]` of a command. -/
def Operands.lagAt (o : Operands) (m : Nat) : F64 := o.lag.getD m F64.zero
/-- `GAIN[m]` of a command. -/
def Operands.gainAt (o : Operands) (m : Nat) : F64 := o.gain.getD m F64.zero
/-- `IN[k]` of a command. -/
def Operands.inputAt (o : Operands) (k : Nat) : F64 := o.input.getD k F64.zero

/-- The free NaNs of one command, one for each of its operations (R20, log entry 5). -/
abbrev Draws := Site → F64

/-- The free NaNs of the command that starts in state `s`. -/
def drawsOf (s : State) : Draws := Config.freeNaN s.draws

end Sys2Proof.Machine
end

