-- ==== Sys2Proof/Machine/Segment.lean ====
section
/-! DEFINITION. The micro-operation SEGMENT and its sample step (R120 to R132). -/

namespace Sys2Proof.Machine

/-- The damper shift of R122 and R125: entry `k` takes entry `k - 1`, entry 0 keeps its value. -/
def shiftDamper (d : List F64) : List F64 := d.take 1 ++ d.dropLast

/-- `INTERP_COEF[ROW]` (R123). -/
def activeRow (s : State) : List F64 := s.cfg.interpCoef.getD s.work.row.toNat []

/-- The write position `pos` of R121. -/
def writePos (s : State) : Nat := s.work.index + s.cfg.histLen

/-- The tap base of R121. -/
def tapBase (s : State) : Int := (writePos s : Int) - s.work.lagOffset

/-- The fractional-lag prediction `p` (R123): taps ascending from `+0.0`. -/
def predict (nan : Draws) (s : State) : F64 :=
  (List.range interpTaps).foldl
    (fun p m =>
      F64.add (nan ⟨.tapAdd, s.work.index, 0, m⟩) p
        (F64.mul (nan ⟨.tapMul, s.work.index, 0, m⟩)
          (s.work.wbuf.getD (tapBase s + m).toNat F64.zero) ((activeRow s).getD m F64.zero)))
    F64.zero

/-- Steps 1 and 3: the damper memory shifted, with the gain-scaled prediction as its newest sample (R122, R124). -/
def nextDamper (nan : Draws) (s : State) : List F64 :=
  (shiftDamper s.work.wdamp).set 0 (F64.mul (nan ⟨.gainMul, s.work.index, 0, 0⟩) s.work.wGain (predict nan s))

/-- The first position of the trial window, `li` of R126. -/
def trialBase (s : State) : Int := (s.work.index : Int) - s.work.lagOffset

/-- The first tap of the trial window that is read, `mt` of R126. -/
def firstTrialTap (s : State) : Nat := (-(trialBase s)).toNat

/-- The trial prediction `s2` of lane `j` (R126): taps descending from 8 to `mt`, from `+0.0`. -/
def trialPredict (nan : Draws) (s : State) (j : Nat) : F64 :=
  (((List.range interpTaps).filter fun m => decide (firstTrialTap s ≤ m)).reverse).foldl
    (fun s2 m =>
      F64.add (nan ⟨.trialTapAdd, s.work.index, j, m⟩) s2
        (F64.mul (nan ⟨.trialTapMul, s.work.index, j, m⟩)
          ((s.trial.getD j []).getD (trialBase s + m).toNat Slot.unwritten).value
          ((activeRow s).getD m F64.zero)))
    F64.zero

/-- `GMULT[j] x p + W_GAIN x s2` (R126). -/
def trialNewest (nan : Draws) (s : State) (j : Nat) : F64 :=
  F64.add (nan ⟨.trialSum, s.work.index, j, 0⟩)
    (F64.mul (nan ⟨.trialBase, s.work.index, j, 0⟩) (s.work.gmult.getD j F64.zero) (predict nan s))
    (F64.mul (nan ⟨.trialGain, s.work.index, j, 0⟩) s.work.wGain (trialPredict nan s j))

/-- The trial damper memory of lane `j` after steps 4a and 4b: every lane shifts (R125), and lanes `0..SUB` take
their new newest sample (R126). -/
def nextTrialDamper (nan : Draws) (s : State) (j : Nat) : List F64 :=
  let shifted := shiftDamper (s.work.ddg.getD j [])
  if j ≤ s.work.sub then shifted.set 0 (trialNewest nan s j) else shifted

/-- The damped trial sample of lane `j` (R127): `t - DDG[j][k] x DAMP_COEF[k]`, `k` ascending from `+0.0`. -/
def trialSample (nan : Draws) (s : State) (j : Nat) : F64 :=
  let d := nextTrialDamper nan s j
  (List.range dampTaps).foldl
    (fun t k =>
      F64.sub (nan ⟨.trialDampSub, s.work.index, j, k⟩) t
        (F64.mul (nan ⟨.trialDampMul, s.work.index, j, k⟩)
          (d.getD k F64.zero) (s.cfg.dampCoef.getD k F64.zero)))
    F64.zero

/-- Lane `j` of TRIAL after step 4c: lanes `0..SUB` are written at `INDEX` (R127). -/
def nextTrialLane (nan : Draws) (s : State) (j : Nat) : List Slot :=
  let lane := s.trial.getD j []
  if j ≤ s.work.sub then lane.set s.work.index ⟨trialSample nan s j, true⟩ else lane

/-- Steps 4a to 4c, in mode PRE_GAIN only (R125 to R127, R132). -/
def trialStep (nan : Draws) (s : State) : State :=
  if s.work.mode = .preGain then
    { s with
      trial := (List.range subframes).map (nextTrialLane nan s)
      work := { s.work with ddg := (List.range subframes).map (nextTrialDamper nan s) } }
  else s

/-- The damping sum `s` of the damper memory `d` (R128): taps ascending from `+0.0`. -/
def dampingSum (nan : Draws) (c : Config) (index : Nat) (d : List F64) : F64 :=
  (List.range dampTaps).foldl
    (fun s k =>
      F64.add (nan ⟨.dampAdd, index, 0, k⟩) s
        (F64.mul (nan ⟨.dampMul, index, 0, k⟩) (d.getD k F64.zero) (c.dampCoef.getD k F64.zero)))
    F64.zero

/-- The output sample, step 6: input minus damped sum (R129). -/
def outputSample (o : Operands) (nan : Draws) (s : State) : F64 :=
  F64.sub (nan ⟨.outSub, s.work.index, 0, 0⟩) (o.inputAt s.work.index)
    (dampingSum nan s.cfg s.work.index (nextDamper nan s))

/-- The history sample, step 7: input plus output (R130). -/
def historySample (o : Operands) (nan : Draws) (s : State) : F64 :=
  F64.add (nan ⟨.histAdd, s.work.index, 0, 0⟩) (o.inputAt s.work.index) (outputSample o nan s)

/-- Steps 1 to 3 and 5 to 8 of the sample step: damper, output, history, advance (R122 to R124, R128 to R131). -/
def mainStep (o : Operands) (nan : Draws) (s : State) : State :=
  { s with
    output := s.output.set s.work.index ⟨outputSample o nan s, true⟩
    work := { s.work with
      wdamp := nextDamper nan s
      wbuf := s.work.wbuf.set (writePos s) (historySample o nan s)
      index := s.work.index + 1 } }

/-- SAMPLE_STEP (R133). The trial path reads nothing the main path writes but the prediction, which both compute from
the same elements; it runs first and leaves every element the main path reads (log entry 17). -/
def sampleStep (o : Operands) (nan : Draws) (s : State) : State :=
  mainStep o nan (trialStep nan s)

/-- SEGMENT(n): the sample step exactly `n` times (R120). -/
def segment (o : Operands) (nan : Draws) (n : Nat) (s : State) : State :=
  forLoop (fun _ => sampleStep o nan) n 0 s

end Sys2Proof.Machine
end

