-- ==== Sys2Proof/Machine/Update.lean ====
section
/-! DEFINITION. The micro-operation UPDATE (R150 to R158): the delay split, the row, the gain-search multipliers. `m`
and `n` are the sub-frame and the step, which name the operations' free NaNs. -/

namespace Sys2Proof.Machine

/-- `t = W_LAG + FILT_DELAY` (R151). -/
def delaySum (nan : Draws) (c : Config) (m n : Nat) (lag : F64) : F64 :=
  F64.add (nan ⟨.delaySum, m, n, 0⟩) lag c.filtDelay

/-- `rne(t + 0.5)` (R151); `none` where `rne` is undefined (R16). -/
def lagOffsetOf (nan : Draws) (m n : Nat) (t : F64) : Option Int :=
  F64.rne (F64.add (nan ⟨.halfSum, m, n, 0⟩) t F64.half)

/-- The fractional remainder `f = i2f(W_LAG_OFFSET) - t` (R152). -/
def remainderOf (nan : Draws) (m n : Nat) (t : F64) (offset : Int) : F64 :=
  F64.sub (nan ⟨.remainder, m, n, 0⟩) (F64.i2f offset) t

/-- `rne(8.0 x f - 0.5)` (R153); `none` where `rne` is undefined. -/
def rowOf (nan : Draws) (m n : Nat) (t : F64) (offset : Int) : Option Int :=
  F64.rne (F64.sub (nan ⟨.rowShift, m, n, 0⟩)
    (F64.mul (nan ⟨.rowScale, m, n, 0⟩) F64.eight (remainderOf nan m n t offset)) F64.half)

/-- The fault of one step lag (R158, R172), `none` for a legal one; `LagOffsetRange` before `FractionIndexRange`. -/
def stepFault (nan : Draws) (c : Config) (m n : Nat) (lag : F64) : Option CommandFault :=
  let t := delaySum nan c m n lag
  match lagOffsetOf nan m n t with
  | none => some ⟨.lagOffsetRange, c.steps * m + n⟩
  | some offset =>
    if offset < c.lagOffsetMin ∨ (c.lagOffsetMax : Int) < offset then
      some ⟨.lagOffsetRange, c.steps * m + n⟩
    else
      match rowOf nan m n t offset with
      | none => some ⟨.fractionIndexRange, c.steps * m + n⟩
      | some row =>
        if row < 0 ∨ (fracRows : Int) - 1 < row then some ⟨.fractionIndexRange, c.steps * m + n⟩ else none

/-- `GMULT[SUB] + GAIN_STEP`, capped at `GAIN_MULT_MAX` after the addition (R155). -/
def multUp (nan : Draws) (c : Config) (m n : Nat) (g : F64) : F64 :=
  let sum := F64.add (nan ⟨.multUp, m, n, 0⟩) g c.gainStep
  if F64.lt c.gainMultMax sum then c.gainMultMax else sum

/-- `GMULT[SUB-1] - GAIN_STEP`, with no lower bound (R156, log entry 16). -/
def multDown (nan : Draws) (c : Config) (m n : Nat) (g : F64) : F64 :=
  F64.sub (nan ⟨.multDown, m, n, 0⟩) g c.gainStep

/-- The multipliers after UPDATE in sub-frame `m` (R155, R156). -/
def nextMultipliers (nan : Draws) (c : Config) (m n : Nat) (gm : List F64) : List F64 :=
  let up := gm.set m (multUp nan c m n (gm.getD m F64.zero))
  if 0 < m then up.set (m - 1) (multDown nan c m n (up.getD (m - 1) F64.zero)) else up

/-- UPDATE (R150, R157). In the main pass no `rne` is undefined: validation has refused such a step lag (R158, log
entry 10). -/
def update (nan : Draws) (s : State) : State :=
  let w := s.work
  let t := delaySum nan s.cfg w.sub w.stepNo w.wLag
  let offset := (lagOffsetOf nan w.sub w.stepNo t).getD 0
  { s with
    work := { w with
      lagOffset := offset
      row := (rowOf nan w.sub w.stepNo t offset).getD 0
      gmult := if w.mode = .preGain then nextMultipliers nan s.cfg w.sub w.stepNo w.gmult else w.gmult } }

end Sys2Proof.Machine
end

