-- ==== Sys2Proof/Machine/Frame.lean ====
section
/-! DEFINITION. The operation FRAME(mode) (R170 to R187): validation, import, the sub-frame loop, export, lookahead. -/

namespace Sys2Proof.Machine

/-- What phases 2 and 3 leave: the target gains `G`, the start point of the first ramp, the frame state (R174 to
R176, R187). -/
structure Seed where
  g : List F64
  oldLag : F64
  oldGain : F64
  fallback : Bool
  deriving DecidableEq, Repr

/-- `G[m]` (R174): the target gain, multiplied by `ENHANCER` in mode POST. -/
def targetGain (nan : Draws) (c : Config) (mode : Mode) (o : Operands) (m : Nat) : F64 :=
  if mode = .post then F64.mul (nan ⟨.enhance, m, 0, 0⟩) (o.gainAt m) c.enhancer else o.gainAt m

/-- The fallback test (R175): the first target lag against the last lag, both comparisons strict. -/
def fallbackTest (nan : Draws) (c : Config) (lastLag lag0 : F64) : Bool :=
  F64.lt (F64.mul (nan ⟨.upRatio, 0, 0, 0⟩) c.upRatio lastLag) lag0 ||
  F64.lt lag0 (F64.mul (nan ⟨.downRatio, 0, 0, 0⟩) c.downRatio lastLag)

/-- Phases 2 and 3 (R174 to R176): under fallback the ramp starts at the first sub-frame's targets. -/
def seedOf (nan : Draws) (mode : Mode) (o : Operands) (s : State) : Seed :=
  let g := (List.range subframes).map (targetGain nan s.cfg mode o)
  if fallbackTest nan s.cfg s.lastLag (o.lagAt 0) then
    { g := g, oldLag := o.lagAt 0, oldGain := g.getD 0 F64.zero, fallback := true }
  else
    { g := g, oldLag := s.lastLag, oldGain := s.lastGain, fallback := false }

/-- `LAG_MIN <= LAG[m] and LAG[m] <= LAG_MAX` (R171); false for a NaN. -/
def lagInRange (c : Config) (lag : F64) : Bool := F64.le c.lagMin lag && F64.le lag c.lagMax

/-- Phase 1, the target-lag check (R171): the lowest failing sub-frame. -/
def targetLagFault (c : Config) (o : Operands) : Option CommandFault :=
  ((List.range subframes).find? fun m => !lagInRange c (o.lagAt m)).map fun m => ⟨.invalidLagRange, m⟩

/-- `(target - start) / i2f(STEPS)` for the lag ramp of sub-frame `m` (R178). -/
def lagDeltaOf (nan : Draws) (c : Config) (m : Nat) (start target : F64) : F64 :=
  F64.div (nan ⟨.lagDelta, m, 0, 0⟩) (F64.sub (nan ⟨.lagDiff, m, 0, 0⟩) target start) (F64.i2f c.steps)

/-- `(target - start) / i2f(STEPS)` for the gain ramp of sub-frame `m` (R178). -/
def gainDeltaOf (nan : Draws) (c : Config) (m : Nat) (start target : F64) : F64 :=
  F64.div (nan ⟨.gainDelta, m, 0, 0⟩) (F64.sub (nan ⟨.gainDiff, m, 0, 0⟩) target start) (F64.i2f c.steps)

/-- One increment of the lag ramp (R179). -/
def nextLag (nan : Draws) (m n : Nat) (lag delta : F64) : F64 := F64.add (nan ⟨.lagStep, m, n, 0⟩) lag delta

/-- One increment of the gain ramp (R179). -/
def nextGain (nan : Draws) (m n : Nat) (gain delta : F64) : F64 := F64.add (nan ⟨.gainStep, m, n, 0⟩) gain delta

/-- The lags of `count` steps of sub-frame `m` from step `n` on, each with its sub-frame and step (R172). -/
def rampLags (nan : Draws) (m : Nat) (delta : F64) : Nat → Nat → F64 → List (Nat × Nat × F64)
  | 0, _, _ => []
  | count + 1, n, lag =>
    (m, n, nextLag nan m n lag delta) :: rampLags nan m delta count (n + 1) (nextLag nan m n lag delta)

/-- The step lags of the sub-frames from `m` on with targets `targets`, the first ramp starting at `start`: each
later ramp starts at the exact previous target (R172, R178). -/
def stepLags (nan : Draws) (c : Config) : Nat → F64 → List F64 → List (Nat × Nat × F64)
  | _, _, [] => []
  | m, start, target :: rest =>
    rampLags nan m (lagDeltaOf nan c m start target) c.steps 0 start ++ stepLags nan c (m + 1) target rest

/-- Phase 4, the step-lag validation (R172): the first failing step's fault. -/
def stepLagFault (nan : Draws) (c : Config) (o : Operands) (oldLag : F64) : Option CommandFault :=
  (stepLags nan c 0 oldLag ((List.range subframes).map o.lagAt)).findSome? fun k => stepFault nan c k.1 k.2.1 k.2.2

/-- The fault of a frame command, by the priority of R235: the target lags, then the steps in order. -/
def frameFault (nan : Draws) (mode : Mode) (o : Operands) (s : State) : Option CommandFault :=
  match targetLagFault s.cfg o with
  | some f => some f
  | none => stepLagFault nan s.cfg o (seedOf nan mode o s).oldLag

/-- Phase 5, the working-state import (R173), with the results of phases 2 and 3 in the sequencer state (R47). -/
def importWork (mode : Mode) (sd : Seed) (s : State) : State :=
  { s with
    work := { s.work with
      wbuf := s.hist ++ List.replicate (s.cfg.frameLen + s.cfg.lookahead) F64.zero
      wdamp := s.damp
      index := 0
      mode := mode
      g := sd.g
      oldLag := sd.oldLag
      oldGain := sd.oldGain
      fallback := sd.fallback
      phase := .subframes } }

/-- Phase 6, the gain-search initialisation, in mode PRE_GAIN only (R177). -/
def initGainSearch (s : State) : State :=
  if s.work.mode = .preGain then
    { s with
      trial := List.replicate subframes (List.replicate s.cfg.segLen ⟨F64.zero, true⟩)
      work := { s.work with
        ddg := List.replicate subframes (List.replicate dampTaps F64.zero)
        gmult := (List.replicate subframes F64.zero).set 0 (if s.work.fallback then F64.one else F64.zero) } }
  else s

/-- Sub-frame setup (R178). -/
def setupSubframe (o : Operands) (nan : Draws) (m : Nat) (s : State) : State :=
  { s with
    work := { s.work with
      sub := m
      lagDelta := lagDeltaOf nan s.cfg m s.work.oldLag (o.lagAt m)
      wLag := s.work.oldLag
      gainDelta := gainDeltaOf nan s.cfg m s.work.oldGain (s.work.g.getD m F64.zero)
      wGain := s.work.oldGain
      oldLag := o.lagAt m
      oldGain := s.work.g.getD m F64.zero } }

/-- The ramp increment of step `n` (R179): gain, then lag. -/
def advanceRamp (nan : Draws) (n : Nat) (s : State) : State :=
  { s with
    work := { s.work with
      stepNo := n
      wGain := nextGain nan s.work.sub n s.work.wGain s.work.gainDelta
      wLag := nextLag nan s.work.sub n s.work.wLag s.work.lagDelta
      nsamp := s.cfg.samplesPerStep } }

/-- Step `n` of a sub-frame (R179): the increments, UPDATE, SEGMENT. -/
def runStep (o : Operands) (nan : Draws) (n : Nat) (s : State) : State :=
  segment o nan s.cfg.samplesPerStep (update nan (advanceRamp nan n s))

/-- Sub-frame `m` (R178): its setup and its `STEPS` steps. -/
def runSubframe (o : Operands) (nan : Draws) (m : Nat) (s : State) : State :=
  forLoop (runStep o nan) s.cfg.steps 0 (setupSubframe o nan m s)

/-- Phase 7, the sub-frame loop (R178, R179). -/
def runSubframes (o : Operands) (nan : Draws) (s : State) : State :=
  forLoop (runSubframe o nan) subframes 0 s

/-- The sequencer enters phase 8 (R47). -/
def setupExport (s : State) : State := { s with work := { s.work with phase := .exporting } }

/-- FilterState takes the tail of the working buffer, the working damper memory and the end of the last ramp (R181,
R182). -/
def storeFilterState (s : State) : State :=
  { s with
    hist := (s.work.wbuf.drop s.cfg.frameLen).take s.cfg.histLen
    damp := s.work.wdamp
    lastLag := s.work.oldLag
    lastGain := s.work.oldGain }

/-- Phase 8, the export of FilterState, in every mode but PRE_GAIN (R181, R182, R184). -/
def exportFilterState (s : State) : State :=
  if s.work.mode = .preGain then setupExport s else storeFilterState (setupExport s)

/-- The lookahead segment's sequencer state: the last sub-frame's number, `LOOKAHEAD` samples (R183). -/
def setupLookahead (s : State) : State :=
  { s with work := { s.work with sub := subframes - 1, nsamp := s.cfg.lookahead, phase := .lookahead } }

/-- Phase 9, the lookahead segment, in modes PRE_LA and PRE_GAIN (R183): no UPDATE. -/
def runLookahead (o : Operands) (nan : Draws) (s : State) : State :=
  if s.work.mode = .preLa ∨ s.work.mode = .preGain then
    segment o nan s.cfg.lookahead (setupLookahead s)
  else s

/-- The sequencer is idle again (R47). -/
def idlePhase (s : State) : State := { s with work := { s.work with phase := .idle } }

/-- Phases 5 to 9 (R170). -/
def runFrame (mode : Mode) (o : Operands) (nan : Draws) (s : State) : State :=
  idlePhase (runLookahead o nan (exportFilterState (runSubframes o nan
    (initGainSearch (importWork mode (seedOf nan mode o s) s)))))

/-- FRAME(mode) and the end of its command (R170, R200, R235): a fault of phases 1 to 4 is taken with nothing else
changed; otherwise phases 5 to 9 run and the command completes. -/
def frameCommand (mode : Mode) (s : State) : State :=
  match frameFault (drawsOf s) mode (operandsOf mode s) s with
  | some f => takeFault f (noteOperands mode s)
  | none => complete (runFrame mode (operandsOf mode s) (drawsOf s) (noteOperands mode s))

end Sys2Proof.Machine
end

