-- ==== Sys2Proof/Machine/FrameCommands.lean ====
section
/-! DEFINITION. The meanings of the four frame commands (R202 to R205). -/

namespace Sys2Proof.Machine

/-- `PF_PRE` (R202): `FRAME(PRE)`. -/
def execPfPre (s : State) : Host.Outcome State Fault Refusal := .next (frameCommand .pre s)

/-- `PF_PRE_LA` (R203): `FRAME(PRE_LA)`. -/
def execPfPreLa (s : State) : Host.Outcome State Fault Refusal := .next (frameCommand .preLa s)

/-- `PF_PRE_GAIN` (R204): `FRAME(PRE_GAIN)`. -/
def execPfPreGain (s : State) : Host.Outcome State Fault Refusal := .next (frameCommand .preGain s)

/-- `PF_POST` (R205): `FRAME(POST)`. -/
def execPfPost (s : State) : Host.Outcome State Fault Refusal := .next (frameCommand .post s)

end Sys2Proof.Machine
end

