-- ==== Sys2Proof/Machine/Dispatch.lean ====
section
/-! DEFINITION. EXECUTE's case split (R201): one arm per command. -/

namespace Sys2Proof.Machine

def exec (i : Instr) (s : State) : Host.Outcome State Fault Refusal :=
  match i with
  | .pfPre => Sys2Proof.Machine.execPfPre s
  | .pfPreLa => Sys2Proof.Machine.execPfPreLa s
  | .pfPreGain => Sys2Proof.Machine.execPfPreGain s
  | .pfPost => Sys2Proof.Machine.execPfPost s
  | .pfInit => Sys2Proof.Machine.execPfInit s
  | .pfClrstat => Sys2Proof.Machine.execPfClrstat s

end Sys2Proof.Machine
end

