-- ==== Sys2Proof/Machine/HostAccess.lean ====
section
/-! DEFINITION. The host's accesses to the register window (R70 to R79, R200, R232). -/

namespace Sys2Proof.Machine

/-- The register a host access of `width` bytes at host address `addr` reaches: 8 bytes wide, at an offset from
`PF_BASE` that is a multiple of 8 and mapped (R74, R75). An address outside the window reaches none (log entry 9). -/
def accessReg (c : Config) (addr width : Nat) : Option Reg :=
  if width = 8 ∧ c.pfBase ≤ addr ∧ addr - c.pfBase < windowBytes ∧ (addr - c.pfBase) % 8 = 0 then
    decodeOffset c (addr - c.pfBase)
  else none

/-- The violation of a host read, if it is one (R232). An access that no register answers is `AccessFault` even while
busy (log entry 7). -/
def readViolation (s : State) (addr width : Nat) : Option Violation :=
  match accessReg s.cfg addr width with
  | none => some .accessFault
  | some r =>
    if s.busy = true ∧ r.readableWhileBusy = false then some .busyAccess
    else if marked s r then none
    else some .unwrittenRead

/-- A host read (R77, R78, R232): the register's value, or the violation's record and any value. -/
def hostRead (addr width : Nat) (s : State) : State :=
  match readViolation s addr width with
  | some v => respondFree (violate v s)
  | none =>
    match accessReg s.cfg addr width with
    | some r => respond (peek s r) s
    | none => s

/-- The violation of a host write, if it is one (R76, R79, R232). -/
def writeViolation (s : State) (addr width : Nat) : Option Violation :=
  match accessReg s.cfg addr width with
  | none => some .accessFault
  | some r =>
    if r.readOnly then some .accessFault
    else if s.busy then some .busyAccess
    else none

/-- A defined host write to register `r`: CMD issues a command, any other register stores the value (R76, R78). -/
def storeReg (r : Reg) (v : Word) (s : State) : State :=
  match r with
  | .cmd => issueCommand v s
  | r => poke r v s

/-- A host write (R76, R78, R79, R200, R232): the effect on the register, or the violation's record and no effect. -/
def hostWrite (addr width : Nat) (v : Word) (s : State) : State :=
  match writeViolation s addr width with
  | some w => violate w s
  | none =>
    match accessReg s.cfg addr width with
    | some r => storeReg r v s
    | none => s

/-- One poll of the host's `wait` (R106): a read of STATUS. While it returns BUSY = 1 the host goes on polling, and
the block has its turn after `polls` more such polls (R80; DESIGN CHOICE, log entry 18). -/
def hostWait (polls : Nat) (s : State) : State :=
  let t := hostRead (s.cfg.pfBase + offsetOf s.cfg .status) 8 s
  if s.busy then
    match polls with
    | 0 => { t with inputs := .block :: .wait 0 :: t.inputs }
    | k + 1 => { t with inputs := .wait k :: t.inputs }
  else t

end Sys2Proof.Machine
end

