-- ==== Sys2Proof/Machine/HostProgram.lean ====
section
/-! DEFINITION. Host programs (R105, R106) and the events they stand for.

DESIGN CHOICE (log entry 18): R80 leaves open where the block's turn falls after the CMD write, and R105 and R106 write
no turn. A program of the model names it: `turn` puts it between two forms, and the number of a `wait` or a `run` puts
it between two polls of STATUS. -/

namespace Sys2Proof.Machine

/-- The host's forms and pseudo-instructions (R105, R106), and the block's turn among them. Values are 64-bit images.
DESIGN CHOICE (log entry 18): the place of the block's turn, which R80 leaves open, is part of the program: at a `turn`,
or, where a `wait` finds the block still busy, after the poll loop has read BUSY = 1 `polls + 1` times. -/
inductive HostOp where
  /-- `wr NAME, value` -/
  | wr (r : Reg) (value : Word)
  /-- `rd NAME` -/
  | rd (r : Reg)
  /-- `cmd MNEMONIC` -/
  | cmd (i : Instr)
  /-- `wait`. If the first read finds BUSY = 0 the loop ends there; else the block has its turn after `polls + 1`
  reads of BUSY = 1, and the next read ends the loop. -/
  | wait (polls : Nat)
  /-- `run MNEMONIC`, the block's turn inside its `wait`. A run whose first poll reads BUSY = 0 (the schedule of 95's
  programs) is `cmd`, `turn`, `wait`. -/
  | run (i : Instr) (polls : Nat)
  /-- `fill IN, v` -/
  | fill (value : Word)
  /-- No form of R105: the block has its turn here (R80, log entry 18). -/
  | turn
  deriving DecidableEq, Repr

/-- `MemWrite(PF_BASE + offset(NAME), 8, value)` (R105). -/
def writeEvent (c : Config) (r : Reg) (v : Word) : Event := .write (c.pfBase + offsetOf c r) 8 v

/-- `MemRead(PF_BASE + offset(NAME), 8)` (R105). -/
def readEvent (c : Config) (r : Reg) : Event := .read (c.pfBase + offsetOf c r) 8

/-- The expansions of R105 and R106, with the block's turn where the program puts it (DESIGN CHOICE, log entry 18). -/
def HostOp.expand (c : Config) : HostOp → List Event
  | .wr r v => [writeEvent c r v]
  | .rd r => [readEvent c r]
  | .cmd i => [writeEvent c .cmd (encode i)]
  | .wait polls => [.wait polls]
  | .run i polls => [writeEvent c .cmd (encode i), .wait polls]
  | .fill v => (List.range c.segLen).map fun k => writeEvent c (.input k) v
  | .turn => [.block]

/-- The events of a host program, in program order. -/
def programEvents (c : Config) (p : List HostOp) : List Event := p.flatMap (HostOp.expand c)

/-- The state with a host program's events before those it has. -/
def State.withProgram (s : State) (p : List HostOp) : State :=
  { s with inputs := programEvents s.cfg p ++ s.inputs }

end Sys2Proof.Machine
end

