-- ==== Sys2Proof/Machine/Step.lean ====
section
/-! DEFINITION. One step of the machine (R7, R80): the next event of the order, or the block's turn. -/

namespace Sys2Proof.Machine

/-- The block's turn (R80, R200, R201): the pending command is decoded and executed in one atomic step; an illegal
word takes its fault. With nothing pending the block is idle and holds its state (R247). -/
def blockTurn (s : State) : Host.Outcome State Fault Refusal :=
  match fetch s with
  | none => .next s
  | some w =>
    match decode w with
    | .command i => exec i s
    | .illegalCommand opc => .next (takeFault (illegalCommandFault opc) s)
    | .notOneWord => .next s

/-- One step: the first pending event happens. With no event pending, the block has the turn: an accepted command is
always performed in the end (R80, weak fairness). -/
def step (s : State) : Host.Outcome State Fault Refusal :=
  match s.inputs with
  | [] => blockTurn s
  | .block :: rest => blockTurn { s with inputs := rest }
  | .read addr width :: rest => .next (hostRead addr width { s with inputs := rest })
  | .write addr width v :: rest => .next (hostWrite addr width v { s with inputs := rest })
  | .wait polls :: rest => .next (hostWait polls { s with inputs := rest })
  | .reset :: rest => .next (applyReset { s with inputs := rest })

/-- The state in which the next step runs the command word of the bits `w` of an opcode-table row of `nbits` bits:
the word is in CMD, accepted and pending, and the block has the next turn. -/
def State.withFetchWord (s : State) (nbits w : Nat) : State :=
  withPending (wordOfBytes (bytesOfWord (BitVec.ofNat 64 (w % 2 ^ nbits)))) s

end Sys2Proof.Machine
end

