-- ==== Sys2Proof/Safety.lean ====
section
/-! DEFINITION. What a well-formed state is, and what counts as a safe run (R43, R200, R232). -/

namespace Sys2Proof.Machine

/-- The control and status registers agree (R43 to R45, R200, R231, R235, R236): no reserved bit of STATUS is set; DONE
and FAULT are never both 1; BUSY is 1 exactly while a command is pending, that command is the word in CMD, DONE is
then 0, and with a fault recorded it is `PF_CLRSTAT`; FAULT_CAUSE and FAULT_INFO are 0 with no fault recorded, and a
recorded fault has a cause that is raised. -/
abbrev State.controlWf (s : State) : Prop :=
  s.status.toNat < 8 ∧
  ¬ (s.done = true ∧ s.faulted = true) ∧
  s.busy = s.pending.isSome ∧
  (s.busy = true → s.pending = some s.cmd ∧ s.done = false) ∧
  (s.busy = true → s.faulted = true → s.cmd = encode .pfClrstat) ∧
  (s.faulted = false → s.faultCause = 0 ∧ s.faultInfo = 0) ∧
  (s.faulted = true →
    s.faultCause = causeWord .illegalCommand ∨ s.faultCause = causeWord .invalidLagRange ∨
    s.faultCause = causeWord .lagOffsetRange ∨ s.faultCause = causeWord .fractionIndexRange) ∧
  s.faultInfo.toNat < 2 ^ 16

/-- The invariant of the machine: the configuration is legal, the window's storage has its canonical form, and the
control registers agree. -/
abbrev State.wf (s : State) : Prop := s.cfg.wf ∧ Memory.wf s ∧ s.controlWf

/-- A state whose history holds no host violation (R232: "A program is correct only if its executions leave the fault
record empty"). -/
def State.safe (s : State) : Prop := s.record = []

/-- The states that runs of the machine from `s` pass through. -/
inductive Reaches (s : State) : State → Prop where
  | here : Reaches s s
  | step {t u : State} (run : Reaches s t) (next : step t = .next u) : Reaches s u

/-- A run is safe when every state it passes through is. -/
def SafeRun (s : State) : Prop := ∀ t, Reaches s t → t.safe

end Sys2Proof.Machine
end

