-- ==== Sys2Proof/Certificates/Slice0/Obligations.lean ====
section
/-! DEFINITION. The statements for the provers. Each docstring names the rule of the spec it comes from. Free values
(`Config.freeNaN`, `Config.freeOperand`, `Config.freeRead`) have no body, so a statement holds whatever they are. -/

namespace Sys2Proof.Machine

/-- The frame command of a mode (R101). -/
def frameInstr : Mode → Instr
  | .pre => .pfPre
  | .preLa => .pfPreLa
  | .preGain => .pfPreGain
  | .post => .pfPost

/-- The four elements of FilterState (R31) are the same. -/
def sameFilterState (s t : State) : Prop :=
  t.hist = s.hist ∧ t.damp = s.damp ∧ t.lastLag = s.lastLag ∧ t.lastGain = s.lastGain

/-- The host data registers (R30, class 2) are the same, written marks included. -/
def sameDataRegisters (s t : State) : Prop :=
  t.lag = s.lag ∧ t.gain = s.gain ∧ t.input = s.input ∧ t.output = s.output ∧ t.trial = s.trial

/-- The control and status registers (R30, class 3) and the pending command are the same. -/
def sameControl (s t : State) : Prop :=
  t.cmd = s.cmd ∧ t.status = s.status ∧ t.faultCause = s.faultCause ∧ t.faultInfo = s.faultInfo ∧
  t.pending = s.pending

/-- The next turn is the block's: no event is pending, or the block's turn is the first. -/
def blockIsNext (s : State) : Prop := s.inputs = [] ∨ ∃ rest, s.inputs = .block :: rest

/-- The step lags a frame command of a mode would use, in step order (R172). -/
def frameStepLags (mode : Mode) (s : State) : List (Nat × Nat × F64) :=
  stepLags (drawsOf s) s.cfg 0 (seedOf (drawsOf s) mode (operandsOf mode s) s).oldLag
    ((List.range subframes).map fun m => readOperand s (.lag m))

/-- Every target lag is in range (R171). -/
def TargetLagsLegal (s : State) : Prop :=
  ∀ m, m < subframes → lagInRange s.cfg (readOperand s (.lag m)) = true

/-- A frame command of the mode passes validation: every target lag (R171) and every step lag (R172) is legal. -/
def FrameLegal (mode : Mode) (s : State) : Prop :=
  TargetLagsLegal s ∧
  ∀ k ∈ frameStepLags mode s, stepFault (drawsOf s) s.cfg k.1 k.2.1 k.2.2 = none

/-- The window registers a command may write (R202 to R207, R235). -/
def commandWrites (i : Instr) (c : Config) (r : Reg) : Bool :=
  match i, r with
  | _, .status => true
  | .pfInit, .faultCause | .pfInit, .faultInfo => false
  | _, .faultCause | _, .faultInfo => true
  | .pfPre, .output k | .pfPost, .output k => decide (k < c.frameLen)
  | .pfPreLa, .output k | .pfPreGain, .output k => decide (k < c.segLen)
  | .pfPreGain, .trial _ _ => true
  | .pfPre, .hist _ | .pfPre, .damp _ | .pfPre, .lastLag | .pfPre, .lastGain => true
  | .pfPreLa, .hist _ | .pfPreLa, .damp _ | .pfPreLa, .lastLag | .pfPreLa, .lastGain => true
  | .pfPost, .hist _ | .pfPost, .damp _ | .pfPost, .lastLag | .pfPost, .lastGain => true
  | .pfInit, .hist _ | .pfInit, .damp _ | .pfInit, .lastLag | .pfInit, .lastGain => true
  | _, _ => false

/-- The registers of FilterState (R31). -/
def isFilterStateReg : Reg → Bool
  | .hist _ | .damp _ | .lastLag | .lastGain => true
  | _ => false

/-- The registers with a written mark (R49). -/
def hasMark : Reg → Bool
  | .lag _ | .gain _ | .input _ | .output _ | .trial _ _ => true
  | _ => false

/-- The host address of a register. -/
def addressOf (c : Config) (r : Reg) : Nat := c.pfBase + offsetOf c r

/-- The state the sub-frame loop of a frame command starts from (R170, phases 5 and 6). -/
def loopStart (mode : Mode) (s : State) : State :=
  initGainSearch (importWork mode (seedOf (drawsOf s) mode (operandsOf mode s) s) (noteOperands mode s))

/-- The state in which SEGMENT starts in step `n` of sub-frame `m`, the loop having started in `s₀` (R178, R179). -/
def segmentStart (o : Operands) (nan : Draws) (s₀ : State) (m n : Nat) : State :=
  update nan (advanceRamp nan n (forLoop (runStep o nan) n 0
    (setupSubframe o nan m (forLoop (runSubframe o nan) m 0 s₀))))

/-- The state in which the sample step of sample `i` of step `n` of sub-frame `m` starts (R120, R179). -/
def sampleStart (o : Operands) (nan : Draws) (s₀ : State) (m n i : Nat) : State :=
  segment o nan i (segmentStart o nan s₀ m n)

/-- The state in which the lookahead segment starts (R170, phase 9; R183). -/
def lookaheadStart (mode : Mode) (s : State) : State :=
  setupLookahead (exportFilterState (runSubframes (operandsOf mode s) (drawsOf s) (loopStart mode s)))

/-- `lag + lag_delta + ... + lag_delta`, `n + 1` additions, one rounding each: a running sum of R179. -/
def runningSum (nan : Draws) (op : SiteOp) (m n : Nat) (start delta : F64) : F64 :=
  (List.range (n + 1)).foldl (fun x k => F64.add (nan ⟨op, m, k, 0⟩) x delta) start

/-! ### The two conditions of R172, written out from R151 to R153 -/

/-- `t <- lag + FILT_DELAY` in step `n` of sub-frame `m` (R151). -/
def stepDelay (nan : Draws) (c : Config) (m n : Nat) (lag : F64) : F64 :=
  F64.add (nan ⟨.delaySum, m, n, 0⟩) lag c.filtDelay

/-- `rne(t + 0.5)` (R151), where it is defined. -/
def stepOffset (nan : Draws) (c : Config) (m n : Nat) (lag : F64) : Option Int :=
  F64.rne (F64.add (nan ⟨.halfSum, m, n, 0⟩) (stepDelay nan c m n lag) F64.half)

/-- `rne(8.0 x (i2f(L) - t) - 0.5)` (R152, R153), where it is defined. -/
def stepRow (nan : Draws) (c : Config) (m n : Nat) (lag : F64) (offset : Int) : Option Int :=
  F64.rne (F64.sub (nan ⟨.rowShift, m, n, 0⟩)
    (F64.mul (nan ⟨.rowScale, m, n, 0⟩) F64.eight
      (F64.sub (nan ⟨.remainder, m, n, 0⟩) (F64.i2f offset) (stepDelay nan c m n lag))) F64.half)

/-- The offset is undefined or outside `LAG_OFFSET_MIN..LAG_OFFSET_MAX` (R172, the first condition). -/
def OffsetFails (nan : Draws) (c : Config) (k : Nat × Nat × F64) : Prop :=
  ∀ offset, stepOffset nan c k.1 k.2.1 k.2.2 = some offset →
    offset < c.lagOffsetMin ∨ (c.lagOffsetMax : Int) < offset

/-- The offset is legal, and the row is undefined or outside 0..7 (R172, the second condition). -/
def RowFails (nan : Draws) (c : Config) (k : Nat × Nat × F64) : Prop :=
  ∃ offset, stepOffset nan c k.1 k.2.1 k.2.2 = some offset ∧
    (c.lagOffsetMin : Int) ≤ offset ∧ offset ≤ c.lagOffsetMax ∧
    ∀ row, stepRow nan c k.1 k.2.1 k.2.2 offset = some row → row < 0 ∨ 7 < row

/-! ### SAMPLE_STEP as R133 assembles it: one assignment after another -/

/-- `for k in 4 downto 1: WDAMP[k] <- WDAMP[k-1]` -/
def assembledShift (d : List F64) : List F64 :=
  [4, 3, 2, 1].foldl (fun d k => d.set k (d.getD (k - 1) F64.zero)) d

/-- `DDG[j] <- d` -/
def setTrialDamper (s : State) (j : Nat) (d : List F64) : State :=
  { s with work := { s.work with ddg := s.work.ddg.set j d } }

/-- `TRIAL[j][INDEX] <- t` -/
def setTrialSample (s : State) (j : Nat) (t : F64) : State :=
  { s with trial := s.trial.set j ((s.trial.getD j []).set s.work.index ⟨t, true⟩) }

/-- `for k in 4 downto 1: for j in 0..3: DDG[j][k] <- DDG[j][k-1]` -/
def assembledTrialShift (s : State) : State :=
  (List.range subframes).foldl (fun s j => setTrialDamper s j (assembledShift (s.work.ddg.getD j []))) s

/-- `p <- +0.0 ; for m in 0..8: p <- p + WBUF[base+m] x INTERP_COEF[ROW][m]`, with `base = INDEX + HIST_LEN -
W_LAG_OFFSET`. -/
def assembledPredict (nan : Draws) (s : State) : F64 :=
  let base : Int := s.work.index + s.cfg.histLen - s.work.lagOffset
  [0, 1, 2, 3, 4, 5, 6, 7, 8].foldl
    (fun p (m : Nat) =>
      F64.add (nan ⟨.tapAdd, s.work.index, 0, m⟩) p
        (F64.mul (nan ⟨.tapMul, s.work.index, 0, m⟩) (s.work.wbuf.getD (base + m).toNat F64.zero)
          ((s.cfg.interpCoef.getD s.work.row.toNat []).getD m F64.zero)))
    F64.zero

/-- `s2 <- +0.0 ; for m in 8 downto mt: s2 <- s2 + TRIAL[j][li+m] x INTERP_COEF[ROW][m]`, with `li = INDEX -
W_LAG_OFFSET` and `mt = max(0, -li)`. -/
def assembledTrialSum (nan : Draws) (j : Nat) (s : State) : F64 :=
  let li : Int := s.work.index - s.work.lagOffset
  let mt : Int := max 0 (-li)
  [8, 7, 6, 5, 4, 3, 2, 1, 0].foldl
    (fun s2 (m : Nat) =>
      if (m : Int) < mt then s2
      else
        F64.add (nan ⟨.trialTapAdd, s.work.index, j, m⟩) s2
          (F64.mul (nan ⟨.trialTapMul, s.work.index, j, m⟩) (peek s (.trial j (li + m).toNat))
            ((s.cfg.interpCoef.getD s.work.row.toNat []).getD m F64.zero)))
    F64.zero

/-- `for j in 0..SUB: s2 ...; DDG[j][0] <- GMULT[j] x p + W_GAIN x s2` -/
def assembledTrialPredict (nan : Draws) (p : F64) (s : State) : State :=
  (List.range (s.work.sub + 1)).foldl
    (fun s j =>
      setTrialDamper s j ((s.work.ddg.getD j []).set 0
        (F64.add (nan ⟨.trialSum, s.work.index, j, 0⟩)
          (F64.mul (nan ⟨.trialBase, s.work.index, j, 0⟩) (s.work.gmult.getD j F64.zero) p)
          (F64.mul (nan ⟨.trialGain, s.work.index, j, 0⟩) s.work.wGain (assembledTrialSum nan j s)))))
    s

/-- `for j in 0..SUB: t <- +0.0 ; for k in 0..4: t <- t - DDG[j][k] x DAMP_COEF[k] ; TRIAL[j][INDEX] <- t` -/
def assembledTrialStore (nan : Draws) (s : State) : State :=
  (List.range (s.work.sub + 1)).foldl
    (fun s j =>
      setTrialSample s j
        ([0, 1, 2, 3, 4].foldl
          (fun t k =>
            F64.sub (nan ⟨.trialDampSub, s.work.index, j, k⟩) t
              (F64.mul (nan ⟨.trialDampMul, s.work.index, j, k⟩)
                ((s.work.ddg.getD j []).getD k F64.zero) (s.cfg.dampCoef.getD k F64.zero)))
          F64.zero))
    s

/-- `s <- +0.0 ; for k in 0..4: s <- s + WDAMP[k] x DAMP_COEF[k]` -/
def assembledDampingSum (nan : Draws) (s : State) : F64 :=
  [0, 1, 2, 3, 4].foldl
    (fun sum k =>
      F64.add (nan ⟨.dampAdd, s.work.index, 0, k⟩) sum
        (F64.mul (nan ⟨.dampMul, s.work.index, 0, k⟩)
          (s.work.wdamp.getD k F64.zero) (s.cfg.dampCoef.getD k F64.zero)))
    F64.zero

/-- SAMPLE_STEP in the order of R133. -/
def assembledStep (o : Operands) (nan : Draws) (s : State) : State :=
  let pos := s.work.index + s.cfg.histLen
  let s := { s with work := { s.work with wdamp := assembledShift s.work.wdamp } }
  let p := assembledPredict nan s
  let s := { s with work := { s.work with
    wdamp := s.work.wdamp.set 0 (F64.mul (nan ⟨.gainMul, s.work.index, 0, 0⟩) s.work.wGain p) } }
  let s :=
    if s.work.mode = .preGain then
      assembledTrialStore nan (assembledTrialPredict nan p (assembledTrialShift s))
    else s
  let out := F64.sub (nan ⟨.outSub, s.work.index, 0, 0⟩) (o.inputAt s.work.index) (assembledDampingSum nan s)
  let s := { s with output := s.output.set s.work.index ⟨out, true⟩ }
  let s := { s with work := { s.work with
    wbuf := s.work.wbuf.set pos (F64.add (nan ⟨.histAdd, s.work.index, 0, 0⟩) (o.inputAt s.work.index)
      (peek s (.output s.work.index))) } }
  { s with work := { s.work with index := s.work.index + 1 } }

end Sys2Proof.Machine

open Sys2Proof Sys2Proof.Machine

/-! ### encoding -/

/-- R103: the decoder answers the command of an encoded word and of no other word; every other word is illegal and is
reported by its bits 3:0; a word is a command exactly when `RSV = 0` and `OPC` is in 1..6. -/
def Obligations.DecodeSelectsExactlyTheMap : Prop :=
  ∀ v : Word,
    (∀ i : Instr, decode v = .command i ↔ v = encode i) ∧
    ((∀ i : Instr, v ≠ encode i) → decode v = .illegalCommand (v.extractLsb' 0 4)) ∧
    ((∃ i : Instr, v = encode i) ↔
      v.extractLsb' 4 60 = 0#60 ∧ 1#4 ≤ v.extractLsb' 0 4 ∧ v.extractLsb' 0 4 ≤ 6#4)

/-- R103, R73: every command's word, laid out as the window's bytes, decodes to the command. -/
def Obligations.EncodedBytesDecode : Prop :=
  ∀ i : Instr, i.wf = true → decodeBytes (bytesOfWord (encode i)) = .command i

/-- R73: laying a word out in bytes and reading it back loses no bit, in either direction. -/
def Obligations.WordBytesRoundTrip : Prop :=
  (∀ v : Word, (bytesOfWord v).length = 8 ∧ wordOfBytes (bytesOfWord v) = v) ∧
  (∀ bs : List Byte, bs.length = 8 → bytesOfWord (wordOfBytes bs) = bs)

/-- R101: the words of the opcode map decode to its commands, and some words beside them are illegal. -/
def Obligations.OpcodeMapWordsDecode : Prop :=
  decode 0x0000000000000001#64 = .command .pfPre ∧ decode 0x0000000000000002#64 = .command .pfPreLa ∧
  decode 0x0000000000000003#64 = .command .pfPreGain ∧ decode 0x0000000000000004#64 = .command .pfPost ∧
  decode 0x0000000000000005#64 = .command .pfInit ∧ decode 0x0000000000000006#64 = .command .pfClrstat ∧
  decode 0x0000000000000000#64 = .illegalCommand 0#4 ∧ decode 0x0000000000000007#64 = .illegalCommand 7#4 ∧
  decode 0x0000000000000011#64 = .illegalCommand 1#4 ∧ decode 0x8000000000000001#64 = .illegalCommand 1#4

/-! ### steps -/

/-- R200, R201: on the block's turn, a step runs the decoded pending command; around it, the step only takes the
turn from the event list, which is the model's form of R80's order (log entry 1). -/
def Obligations.StepRunsTheDecodedCommand : Prop :=
  ∀ (s : State) (w : Word) (i : Instr),
    blockIsNext s → s.pending = some w → decode w = .command i → i.wf = true →
    step s = exec i { s with inputs := s.inputs.tail }

/-- R102: a word with `RSV` not 0, or `OPC` 0 or 7 to 15, is illegal: performing it raises `IllegalCommand` with `OPC`,
and nothing else changes. -/
def Obligations.IllegalWordTakesItsFault : Prop :=
  ∀ (s : State) (w : Word), blockIsNext s → s.pending = some w →
    (w.extractLsb' 4 60 ≠ 0#60 ∨ w.extractLsb' 0 4 = 0#4 ∨ 7#4 ≤ w.extractLsb' 0 4) →
    ∃ t, step s = .next t ∧
      t.busy = false ∧ t.done = false ∧ t.faulted = true ∧ t.pending = none ∧
      t.faultCause = 1#64 ∧ t.faultInfo = (w.extractLsb' 0 4).setWidth 64 ∧
      t.cmd = s.cmd ∧ sameFilterState s t ∧ sameDataRegisters s t ∧ t.work = s.work ∧ t.cfg = s.cfg ∧
      t.record = s.record ∧ t.draws = s.draws ∧ t.responses = s.responses ∧ t.inputs = s.inputs.tail

/-- 93 ("No behaviour of this block is treated as `stuck`"): every step from every state has a next state. -/
def Obligations.EveryStepHasANextState : Prop :=
  ∀ s : State, ∃ t, step s = .next t

/-- R51, R261: the reset state of every legal configuration, the default among them, meets the invariant. The values
of unspecified elements are the model's choice (log entries 2 and 3); nothing here depends on them. -/
def Obligations.ResetStatesAreWellFormed : Prop :=
  (∀ c : Config, c.wf → (State.initial c).wf) ∧ State.reset.wf

/-- The invariant that every step keeps: legal configuration, window storage in its canonical form, STATUS without
reserved bits and never with DONE and FAULT both 1 (R43), BUSY exactly while a command is pending (R200), only
`PF_CLRSTAT` pending while a fault is recorded (R236), cause and information 0 without a fault (R44, R45). -/
def Obligations.StepKeepsWellFormed : Prop :=
  ∀ s t : State, s.wf → step s = .next t → t.wf

/-- R48, R50: no step changes the configuration, the tables among it, and no step clears the fault record or changes
what it holds. -/
def Obligations.StepKeepsConfigurationAndRecord : Prop :=
  ∀ s t : State, step s = .next t → t.cfg = s.cfg ∧ ∃ added, t.record = s.record ++ added

/-! ### reset and control commands -/

/-- R51, R260: a reset gives the elements of the reset table their values, clears every mark, discards the pending
command, and keeps the fault record. -/
def Obligations.ResetEventGivesResetValues : Prop :=
  ∀ (s : State) (rest : List Event), s.inputs = .reset :: rest →
    ∃ t, step s = .next t ∧
      t.hist = List.replicate s.cfg.histLen 0#64 ∧ t.damp = List.replicate 5 0#64 ∧
      t.lastLag = s.cfg.resetLag ∧ t.lastGain = s.cfg.resetGain ∧
      t.cmd = 0 ∧ t.status = 0 ∧ t.faultCause = 0 ∧ t.faultInfo = 0 ∧ t.pending = none ∧
      t.work.phase = .idle ∧
      (∀ m, marked t (.lag m) = false ∧ marked t (.gain m) = false) ∧
      (∀ k, marked t (.input k) = false ∧ marked t (.output k) = false) ∧
      (∀ j k, marked t (.trial j k) = false) ∧
      t.record = s.record ∧ t.cfg = s.cfg ∧ t.inputs = rest

/-- R262: FilterState after reset equals FilterState after `PF_INIT`, with the values R262 lists. -/
def Obligations.InitGivesTheResetFilterState : Prop :=
  ∀ s : State, ∃ t, exec .pfInit s = .next t ∧ sameFilterState (applyReset s) t ∧
    t.hist = List.replicate s.cfg.histLen 0#64 ∧ t.damp = List.replicate 5 0#64 ∧
    t.lastLag = s.cfg.resetLag ∧ t.lastGain = s.cfg.resetGain

/-- R206, R200: `PF_INIT` completes from every well-formed state: FilterState at its reset values, BUSY 0, DONE 1, and
every other register and mark as it was. -/
def Obligations.InitCompletes : Prop :=
  ∀ s : State, s.wf → ∃ t, exec .pfInit s = .next t ∧
    t.hist = List.replicate s.cfg.histLen 0#64 ∧ t.damp = List.replicate 5 0#64 ∧
    t.lastLag = s.cfg.resetLag ∧ t.lastGain = s.cfg.resetGain ∧
    t.busy = false ∧ t.done = true ∧ t.status = s.status &&& ~~~1#64 ||| 2#64 ∧ t.pending = none ∧
    t.cmd = s.cmd ∧ t.faultCause = s.faultCause ∧ t.faultInfo = s.faultInfo ∧
    sameDataRegisters s t ∧ t.work = s.work ∧ t.cfg = s.cfg ∧ t.record = s.record ∧ t.draws = s.draws ∧
    t.inputs = s.inputs ∧ t.responses = s.responses

/-- R207, R200: `PF_CLRSTAT` completes from every well-formed state: STATUS is DONE alone, the cause and the
information are 0, and every other register, FilterState and the fault record are as they were. -/
def Obligations.ClearStatusCompletes : Prop :=
  ∀ s : State, s.wf → ∃ t, exec .pfClrstat s = .next t ∧
    t.status = 2#64 ∧ t.faultCause = 0 ∧ t.faultInfo = 0 ∧ t.pending = none ∧ t.cmd = s.cmd ∧
    sameFilterState s t ∧ sameDataRegisters s t ∧ t.work = s.work ∧ t.cfg = s.cfg ∧ t.record = s.record ∧
    t.draws = s.draws ∧ t.inputs = s.inputs ∧ t.responses = s.responses

/-- R236: while a fault is recorded, every command word but `PF_CLRSTAT`'s is ignored; a write of that word and the
block's next turn leave STATUS with DONE alone and no recorded fault. -/
def Obligations.FaultIsLeftByClearStatusOnly : Prop :=
  ∀ (s : State) (v : Word) (rest : List Event), s.wf → s.faulted = true → s.busy = false →
    s.inputs = .write (addressOf s.cfg .cmd) 8 v :: .block :: rest →
    (v ≠ 6#64 → ∃ t u, step s = .next t ∧ step t = .next u ∧ u = { s with cmd := v, inputs := rest }) ∧
    (v = 6#64 → ∃ t u, step s = .next t ∧ step t = .next u ∧ u.status = 2#64 ∧ u.faultCause = 0 ∧
      u.faultInfo = 0 ∧ u.pending = none ∧ sameFilterState s u ∧ sameDataRegisters s u ∧ u.record = s.record)

/-! ### arithmetic -/

/-- R17: `i2f(n)` is exact for `|n| < 2^53`. -/
def Obligations.IntegersConvertExactly : Prop :=
  ∀ n : Int, n.natAbs < 2 ^ 53 →
    F64.isFinite (F64.i2f n) = true ∧ F64.toInt (F64.i2f n) = n * F64.oneUnits

/-- R16: `rne(x)` is the nearest integer, the even one at a tie; it is defined exactly for finite `x`, `|x| < 2^31`. -/
def Obligations.RneIsNearestTiesToEven : Prop :=
  ∀ x : F64,
    (F64.isFinite x = true → (F64.toInt x).natAbs < 2 ^ 31 * F64.oneUnits →
      ∃ k : Int, F64.rne x = some k ∧
        2 * (F64.toInt x - k * F64.oneUnits).natAbs ≤ F64.oneUnits ∧
        (2 * (F64.toInt x - k * F64.oneUnits).natAbs = F64.oneUnits → k % 2 = 0)) ∧
    (¬ (F64.isFinite x = true ∧ (F64.toInt x).natAbs < 2 ^ 31 * F64.oneUnits) → F64.rne x = none)

/-- R14: narrowing is roundTiesToEven. The image `roundMag n d` of the exact magnitude `n / d` (in units of
`2^-1074`) is as near to it as any finite image `y`, even where another is as near, and infinite exactly from half a
unit in the last place beyond the largest finite value on. -/
def Obligations.NarrowingRoundsToNearestEven : Prop :=
  ∀ n d : Nat, 0 < d →
    (F64.roundMag n d = F64.infBits ↔ (2 ^ 54 - 1) * 2 ^ 2044 * d ≤ n) ∧
    (F64.roundMag n d < F64.infBits → ∀ y : Nat, y < F64.infBits →
      ((n : Int) - d * F64.unitsOf (F64.roundMag n d)).natAbs ≤ ((n : Int) - d * F64.unitsOf y).natAbs ∧
      (((n : Int) - d * F64.unitsOf (F64.roundMag n d)).natAbs = ((n : Int) - d * F64.unitsOf y).natAbs →
        y ≠ F64.roundMag n d → F64.roundMag n d % 2 = 0))

/-- R14: a sum, product or quotient of numbers is the exact result narrowed once (`NarrowingRoundsToNearestEven`), so one
that the format holds is that value; an exact zero sum is `+0.0` unless both operands are negative zeros; signs of
products and quotients, infinite operands and division by zero are as IEEE 754 has them, which R14 names and the model
writes out (log entry 14). The free NaN shows in none of these. -/
def Obligations.RepresentableResultsAreExact : Prop :=
  ∀ nan a b : F64,
    (F64.isFinite a = true → F64.isFinite b = true →
      (F64.toInt a + F64.toInt b ≠ 0 →
        F64.magBits (F64.add nan a b) = F64.roundMag (F64.toInt a + F64.toInt b).natAbs 1 ∧
        ((F64.add nan a b).msb = true ↔ F64.toInt a + F64.toInt b < 0)) ∧
      (F64.toInt a + F64.toInt b = 0 →
        F64.magBits (F64.add nan a b) = 0 ∧ (F64.add nan a b).msb = (a.msb && b.msb)) ∧
      F64.sub nan a b = F64.add nan a (F64.neg b) ∧ F64.toInt (F64.neg b) = -F64.toInt b ∧
      F64.sub nan a a = F64.zero ∧
      F64.magBits (F64.mul nan a b) = F64.roundMag (F64.units a * F64.units b) F64.oneUnits ∧
      (F64.mul nan a b).msb = (a.msb != b.msb) ∧
      (F64.magBits b ≠ 0 →
        F64.magBits (F64.div nan a b) = F64.roundMag (F64.units a * F64.oneUnits) (F64.units b) ∧
        (F64.div nan a b).msb = (a.msb != b.msb)) ∧
      (F64.magBits b = 0 → F64.magBits a ≠ 0 →
        F64.isInf (F64.div nan a b) = true ∧ (F64.div nan a b).msb = (a.msb != b.msb)) ∧
      ∀ z : F64, F64.isFinite z = true →
        (F64.toInt a + F64.toInt b = F64.toInt z → F64.toInt z ≠ 0 → F64.add nan a b = z) ∧
        (F64.units a * F64.units b = F64.units z * F64.oneUnits → z.msb = (a.msb != b.msb) → F64.mul nan a b = z) ∧
        (F64.magBits b ≠ 0 → F64.units a * F64.oneUnits = F64.units z * F64.units b → z.msb = (a.msb != b.msb) →
          F64.div nan a b = z)) ∧
    (F64.isInf a = true → F64.isFinite b = true →
      F64.add nan a b = a ∧ F64.add nan b a = a ∧ F64.sub nan a b = a ∧ F64.sub nan b a = F64.neg a ∧
      F64.isInf (F64.div nan a b) = true ∧ (F64.div nan a b).msb = (a.msb != b.msb) ∧
      F64.magBits (F64.div nan b a) = 0 ∧ (F64.div nan b a).msb = (b.msb != a.msb)) ∧
    (F64.isInf a = true → F64.isInf b = true → a.msb = b.msb → F64.add nan a b = a) ∧
    (F64.isInf a = true → F64.isNaN b = false → F64.magBits b ≠ 0 →
      F64.isInf (F64.mul nan a b) = true ∧ (F64.mul nan a b).msb = (a.msb != b.msb) ∧
      F64.mul nan b a = F64.mul nan a b)

/-- R14: comparisons of numbers compare their values; an infinity is beyond every number on its side and equal to itself;
comparisons are false when either operand is a NaN. -/
def Obligations.ComparisonsCompareValues : Prop :=
  ∀ a b : F64,
    (F64.isFinite a = true → F64.isFinite b = true →
      (F64.lt a b = true ↔ F64.toInt a < F64.toInt b) ∧ (F64.le a b = true ↔ F64.toInt a ≤ F64.toInt b)) ∧
    (F64.isInf a = true → F64.isNaN b = false →
      (F64.lt a b = true ↔ a.msb = true ∧ ¬ (F64.isInf b = true ∧ b.msb = true)) ∧
      (F64.le a b = true ↔ a.msb = true ∨ (F64.isInf b = true ∧ b.msb = false))) ∧
    (F64.isNaN a = false → F64.isInf b = true →
      (F64.lt a b = true ↔ b.msb = false ∧ ¬ (F64.isInf a = true ∧ a.msb = false)) ∧
      (F64.le a b = true ↔ b.msb = false ∨ (F64.isInf a = true ∧ a.msb = true))) ∧
    (F64.isNaN a = true ∨ F64.isNaN b = true → F64.lt a b = false ∧ F64.le a b = false)

/-- R20, R14: the free bits of an operation show in its result only where the result is a NaN, so only NaN-ness is
determined there; and a result is a NaN exactly where an operand is, or for infinities of opposite effect in a sum or
difference, zero times infinity, zero over zero and infinity over infinity (IEEE 754, log entry 14). -/
def Obligations.FreeNanBitsShowOnlyInNans : Prop :=
  ∀ n₁ n₂ a b : F64,
    (F64.add n₁ a b = F64.add n₂ a b ∨ F64.isNaN (F64.add n₁ a b) = true ∧ F64.isNaN (F64.add n₂ a b) = true) ∧
    (F64.sub n₁ a b = F64.sub n₂ a b ∨ F64.isNaN (F64.sub n₁ a b) = true ∧ F64.isNaN (F64.sub n₂ a b) = true) ∧
    (F64.mul n₁ a b = F64.mul n₂ a b ∨ F64.isNaN (F64.mul n₁ a b) = true ∧ F64.isNaN (F64.mul n₂ a b) = true) ∧
    (F64.div n₁ a b = F64.div n₂ a b ∨ F64.isNaN (F64.div n₁ a b) = true ∧ F64.isNaN (F64.div n₂ a b) = true) ∧
    (F64.isNaN (F64.add n₁ a b) = true ↔ F64.isNaN a = true ∨ F64.isNaN b = true ∨
      (F64.isInf a = true ∧ F64.isInf b = true ∧ a.msb ≠ b.msb)) ∧
    (F64.isNaN (F64.sub n₁ a b) = true ↔ F64.isNaN a = true ∨ F64.isNaN b = true ∨
      (F64.isInf a = true ∧ F64.isInf b = true ∧ a.msb = b.msb)) ∧
    (F64.isNaN (F64.mul n₁ a b) = true ↔ F64.isNaN a = true ∨ F64.isNaN b = true ∨
      (F64.isInf a = true ∧ F64.magBits b = 0) ∨ (F64.magBits a = 0 ∧ F64.isInf b = true)) ∧
    (F64.isNaN (F64.div n₁ a b) = true ↔ F64.isNaN a = true ∨ F64.isNaN b = true ∨
      (F64.isInf a = true ∧ F64.isInf b = true) ∨ (F64.magBits a = 0 ∧ F64.magBits b = 0))

/-! ### UPDATE -/

/-- R154: where `t = W_LAG + FILT_DELAY` is an odd integer the offset is `t + 1` and the row 8, so the step is refused
with `FractionIndexRange`; where it is an even integer the offset is `t` and the row 0. -/
def Obligations.IntegerDelaysSelectRowEightOrZero : Prop :=
  ∀ (nan : Draws) (c : Config) (m n : Nat) (lag : F64) (t : Int),
    t.natAbs < 2 ^ 30 → delaySum nan c m n lag = F64.i2f t →
    (t % 2 = 1 →
      lagOffsetOf nan m n (F64.i2f t) = some (t + 1) ∧ rowOf nan m n (F64.i2f t) (t + 1) = some 8 ∧
      ((c.lagOffsetMin : Int) ≤ t + 1 → t + 1 ≤ c.lagOffsetMax →
        stepFault nan c m n lag = some ⟨.fractionIndexRange, c.steps * m + n⟩)) ∧
    (t % 2 = 0 →
      lagOffsetOf nan m n (F64.i2f t) = some t ∧ rowOf nan m n (F64.i2f t) t = some 0)

/-- R155, R156: in mode PRE_GAIN, UPDATE adds `GAIN_STEP` to the active sub-frame's multiplier, capped at
`GAIN_MULT_MAX` after the addition, subtracts it from the previous sub-frame's, with no lower bound, and leaves the
others; in the other modes it leaves all. -/
def Obligations.UpdateStepsTheMultipliers : Prop :=
  ∀ (nan : Draws) (s : State), s.work.gmult.length = subframes → s.work.sub < subframes →
    let g := s.work.gmult
    let sub := s.work.sub
    let sum := F64.add (nan ⟨.multUp, sub, s.work.stepNo, 0⟩) (g.getD sub 0) s.cfg.gainStep
    let g' := (update nan s).work.gmult
    (s.work.mode = .preGain →
      g'.getD sub 0 = (if F64.lt s.cfg.gainMultMax sum = true then s.cfg.gainMultMax else sum) ∧
      (0 < sub → g'.getD (sub - 1) 0 =
        F64.sub (nan ⟨.multDown, sub, s.work.stepNo, 0⟩) (g.getD (sub - 1) 0) s.cfg.gainStep) ∧
      ∀ j, j ≠ sub → j + 1 ≠ sub → g'.getD j 0 = g.getD j 0) ∧
    (s.work.mode ≠ .preGain → g' = g)

/-- R160: after UPDATE in mode PRE_GAIN the active sub-frame's multiplier does not exceed `GAIN_MULT_MAX`, and one
that reached `GAIN_MULT_MAX` stays there as long as adding `GAIN_STEP` to it exceeds it. -/
def Obligations.MultiplierNeverExceedsItsCap : Prop :=
  ∀ (nan : Draws) (s : State), s.work.mode = .preGain → s.work.sub < s.work.gmult.length →
    let g' := (update nan s).work.gmult.getD s.work.sub 0
    F64.lt s.cfg.gainMultMax g' = false ∧
    (s.work.gmult.getD s.work.sub 0 = s.cfg.gainMultMax →
      F64.lt s.cfg.gainMultMax
        (F64.add (nan ⟨.multUp, s.work.sub, s.work.stepNo, 0⟩) s.cfg.gainMultMax s.cfg.gainStep) = true →
      g' = s.cfg.gainMultMax)

/-! ### SEGMENT -/

/-- R133: the sample step is the assembled step, one assignment after another in R133's order with the sums of R123,
R126, R127 and R128 written out, where the arrays have their shapes. -/
def Obligations.SampleStepIsTheAssembledStep : Prop :=
  ∀ (o : Operands) (nan : Draws) (s : State),
    s.work.wdamp.length = dampTaps → s.work.index < s.output.length →
    (s.work.mode = .preGain → s.work.sub < subframes ∧ s.trial.length = subframes ∧
      s.work.ddg.length = subframes ∧ ∀ d ∈ s.work.ddg, d.length = dampTaps) →
    sampleStep o nan s = assembledStep o nan s

/-- R134: with a legal configuration and lag offset, every position the sample step reads or writes lies inside its
array, and it reads WBUF and TRIAL only before the positions it writes. -/
def Obligations.SampleStepStaysInBounds : Prop :=
  ∀ s : State, s.cfg.wf → (s.cfg.lagOffsetMin : Int) ≤ s.work.lagOffset → s.work.lagOffset ≤ s.cfg.lagOffsetMax →
    s.work.index < s.cfg.segLen →
    0 ≤ tapBase s ∧ tapBase s + interpTaps - 1 < writePos s ∧ writePos s ≤ s.cfg.wbufLen - 1 ∧
    ∀ m : Nat, firstTrialTap s ≤ m → m < interpTaps →
      0 ≤ trialBase s + m ∧ trialBase s + m < s.work.index

/-- R132: in modes PRE, PRE_LA and POST, SEGMENT reads and writes no DDG, GMULT or TRIAL element: whatever they hold,
they keep it, and everything else comes out the same. -/
def Obligations.SegmentIgnoresTheTrialStateOutsideGainSearch : Prop :=
  ∀ (o : Operands) (nan : Draws) (n : Nat) (s : State) (trial : List (List Slot)) (ddg : List (List F64))
    (gmult : List F64), s.work.mode ≠ .preGain →
    segment o nan n { s with trial := trial, work := { s.work with ddg := ddg, gmult := gmult } } =
      { segment o nan n s with
        trial := trial, work := { (segment o nan n s).work with ddg := ddg, gmult := gmult } }

/-- R137: with `W_GAIN = +0.0`, a finite prediction, a damper memory of zeros and finite damping taps, the output is
the input bit for bit, a negative zero and an infinity included (an input NaN's bits are not fixed, R20). -/
def Obligations.ZeroGainPassesTheInput : Prop :=
  ∀ (o : Operands) (nan : Draws) (s : State),
    s.work.wGain = F64.zero → F64.isFinite (predict nan s) = true →
    (∀ d ∈ s.work.wdamp, F64.magBits d = 0) → (∀ c ∈ s.cfg.dampCoef, F64.isFinite c = true) →
    F64.isNaN (o.inputAt s.work.index) = false → s.work.index < s.output.length →
    ((sampleStep o nan s).output.getD s.work.index Slot.unwritten).value = o.inputAt s.work.index

/-- R183: the lookahead runs with the last step's parameters: offset, row, gain and multipliers stay, `SUB` is the last
sub-frame, `INDEX` advances by `LOOKAHEAD`, FilterState and the outputs already made stay. -/
def Obligations.LookaheadKeepsTheParameters : Prop :=
  ∀ (o : Operands) (nan : Draws) (s : State), s.work.mode = .preLa ∨ s.work.mode = .preGain →
    let t := runLookahead o nan s
    t.work.lagOffset = s.work.lagOffset ∧ t.work.row = s.work.row ∧ t.work.wGain = s.work.wGain ∧
    t.work.gmult = s.work.gmult ∧ t.work.sub = 3 ∧ t.work.index = s.work.index + s.cfg.lookahead ∧
    sameFilterState s t ∧ ∀ k, k < s.work.index → t.output[k]? = s.output[k]?

/-! ### FRAME: validation -/

/-- R171: a frame command (`PF_PRE`, `PF_PRE_LA`, `PF_PRE_GAIN`, `PF_POST`) whose lowest target lag out of range is
`LAG[m]` raises `InvalidLagRange` with `m`; a NaN lag is out of range. -/
def Obligations.TargetLagOutOfRangeFaults : Prop :=
  (∀ (mode : Mode) (s : State) (m : Nat), m < subframes →
    (∀ j, j < m → lagInRange s.cfg (readOperand s (.lag j)) = true) →
    ¬ (F64.le s.cfg.lagMin (readOperand s (.lag m)) = true ∧ F64.le (readOperand s (.lag m)) s.cfg.lagMax = true) →
    ∃ t, exec (frameInstr mode) s = .next t ∧ t.faulted = true ∧ t.busy = false ∧ t.done = false ∧
      t.faultCause = 2#64 ∧ t.faultInfo = BitVec.ofNat 64 m) ∧
  (∀ (c : Config) (lag : F64), F64.isNaN lag = true → lagInRange c lag = false)

/-- R172, R235: with every target lag in range, the first step lag that fails decides a frame command's fault:
`LagOffsetRange` exactly where its offset is undefined or out of range, otherwise `FractionIndexRange` where its row is
undefined or out of range, each with the step number; and a frame command passes validation exactly when every target
lag is in range and no step lag fails either way. -/
def Obligations.FirstFailingStepDecidesTheFault : Prop :=
  (∀ (mode : Mode) (s : State) (before after : List (Nat × Nat × F64)) (k : Nat × Nat × F64),
    TargetLagsLegal s → frameStepLags mode s = before ++ k :: after →
    (∀ j ∈ before, ¬ OffsetFails (drawsOf s) s.cfg j ∧ ¬ RowFails (drawsOf s) s.cfg j) →
    OffsetFails (drawsOf s) s.cfg k ∨ RowFails (drawsOf s) s.cfg k →
    ∃ t, exec (frameInstr mode) s = .next t ∧ t.faulted = true ∧ t.busy = false ∧ t.done = false ∧
      (t.faultCause = 4#64 ↔ OffsetFails (drawsOf s) s.cfg k) ∧
      (t.faultCause = 5#64 ↔ RowFails (drawsOf s) s.cfg k) ∧
      t.faultInfo = infoWord (s.cfg.steps * k.1 + k.2.1)) ∧
  (∀ (mode : Mode) (s : State), FrameLegal mode s ↔
    TargetLagsLegal s ∧
    ∀ k ∈ frameStepLags mode s, ¬ OffsetFails (drawsOf s) s.cfg k ∧ ¬ RowFails (drawsOf s) s.cfg k)

/-- R235: a frame command that does not pass validation takes its fault: STATUS, FAULT_CAUSE and FAULT_INFO are written,
and no FilterState, OUT, TRIAL, LAG, GAIN or IN element and not CMD. Two clauses are the model's choice: the working and
sequencer state stays as it was, which R47 and 93 U6 leave open (log entry 3); and the model's fault record grows by one
`UnwrittenRead` for each unwritten operand of the mode, a faulting command's too (log entry 8). The model's draw counter
advances (log entry 4). -/
def Obligations.FrameFaultsAreAtomic : Prop :=
  ∀ (mode : Mode) (s : State), ¬ FrameLegal mode s →
    ∃ t, exec (frameInstr mode) s = .next t ∧ t.faulted = true ∧ t.busy = false ∧ t.done = false ∧
      t.status = s.status &&& ~~~3#64 ||| 4#64 ∧ t.pending = none ∧ t.faultCause ≠ 0 ∧
      sameFilterState s t ∧ sameDataRegisters s t ∧ t.cmd = s.cmd ∧ t.work = s.work ∧ t.cfg = s.cfg ∧
      t.record = s.record ++
        List.replicate ((operandRegs mode s.cfg).countP fun r => !marked s r) Violation.unwrittenRead ∧
      t.draws = s.draws + 1 ∧ t.inputs = s.inputs ∧ t.responses = s.responses

/-- R234: a NaN `LAST_LAG` with legal target lags does not fall back, and the frame command faults with
`LagOffsetRange` at step 0. -/
def Obligations.NanLastLagFaultsAtStepZero : Prop :=
  ∀ (mode : Mode) (s : State), s.cfg.wf → F64.isNaN s.lastLag = true → TargetLagsLegal s →
    (seedOf (drawsOf s) mode (operandsOf mode s) s).fallback = false ∧
    ∃ t, exec (frameInstr mode) s = .next t ∧ t.faulted = true ∧ t.faultCause = 4#64 ∧ t.faultInfo = 0 ∧
      sameFilterState s t

/-- R9: with a legal configuration, no lag in range is refused for its offset. -/
def Obligations.InRangeLagsHaveLegalOffsets : Prop :=
  ∀ (nan : Draws) (c : Config) (m n : Nat) (lag : F64), c.wf → lagInRange c lag = true →
    ∃ L, lagOffsetOf nan m n (delaySum nan c m n lag) = some L ∧
      (c.lagOffsetMin : Int) ≤ L ∧ L ≤ c.lagOffsetMax

/-- R151 to R153, R158, R172, R180: after validation no step of the main pass fails: in every step SEGMENT starts with
`W_LAG_OFFSET` and `ROW` the values of R151 to R153 for the step's `W_LAG`, each defined, the offset in
`LAG_OFFSET_MIN..LAG_OFFSET_MAX` and the row in 0..7, and with `INDEX` at the sample schedule's place. -/
def Obligations.ValidationCoversTheMainPass : Prop :=
  ∀ (mode : Mode) (s : State), s.wf → FrameLegal mode s →
    ∀ m n, m < subframes → n < s.cfg.steps →
      let w := (segmentStart (operandsOf mode s) (drawsOf s) (loopStart mode s) m n).work
      stepOffset (drawsOf s) s.cfg m n w.wLag = some w.lagOffset ∧
      stepRow (drawsOf s) s.cfg m n w.wLag w.lagOffset = some w.row ∧
      (s.cfg.lagOffsetMin : Int) ≤ w.lagOffset ∧ w.lagOffset ≤ s.cfg.lagOffsetMax ∧
      0 ≤ w.row ∧ w.row ≤ 7 ∧ w.index = s.cfg.subframeLen * m + s.cfg.samplesPerStep * n

/-- R172, R178, R179: the step lags that validation checks are the lags the main pass uses: entry `STEPS x m + n` of the
validated list is `W_LAG` in step `n` of sub-frame `m`. (That a NaN has the same bits in both passes is the model's,
log entry 5; no NaN step lag passes validation.) -/
def Obligations.ValidatedLagsAreTheLagsUsed : Prop :=
  ∀ (mode : Mode) (s : State) (m n : Nat), m < subframes → n < s.cfg.steps →
    (frameStepLags mode s)[s.cfg.steps * m + n]? =
      some (m, n, (segmentStart (operandsOf mode s) (drawsOf s) (loopStart mode s) m n).work.wLag)

/-- R173, R178, R179: the main pass starts from the imported state: WBUF is HIST followed by zeros, WDAMP is DAMP, `INDEX`
is 0 and `MODE` the command's. Sub-frame `m` ramps from the seed for `m = 0` and from the exact previous targets for
`m > 0`, with deltas of a `STEPS`-th of the distance to its own targets, which it leaves as the next start; and in its
step `n`, `W_LAG` and `W_GAIN` are the running sums of the start and `n + 1` deltas, one rounding an addition. -/
def Obligations.SubframesRampFromTheExactTargets : Prop :=
  ∀ (mode : Mode) (s : State),
    let o := operandsOf mode s
    let nan := drawsOf s
    let sd := seedOf nan mode o s
    let start := (loopStart mode s).work
    (start.wbuf = s.hist ++ List.replicate (s.cfg.frameLen + s.cfg.lookahead) F64.zero ∧ start.wdamp = s.damp ∧
      start.index = 0 ∧ start.mode = mode) ∧
    ∀ m, m < subframes →
      let lag := if m = 0 then sd.oldLag else o.lagAt (m - 1)
      let gain := if m = 0 then sd.oldGain else targetGain nan s.cfg mode o (m - 1)
      let lagDelta := F64.div (nan ⟨.lagDelta, m, 0, 0⟩) (F64.sub (nan ⟨.lagDiff, m, 0, 0⟩) (o.lagAt m) lag)
        (F64.i2f s.cfg.steps)
      let gainDelta := F64.div (nan ⟨.gainDelta, m, 0, 0⟩)
        (F64.sub (nan ⟨.gainDiff, m, 0, 0⟩) (targetGain nan s.cfg mode o m) gain) (F64.i2f s.cfg.steps)
      let w := (setupSubframe o nan m (forLoop (runSubframe o nan) m 0 (loopStart mode s))).work
      w.sub = m ∧ w.wLag = lag ∧ w.wGain = gain ∧ w.lagDelta = lagDelta ∧ w.gainDelta = gainDelta ∧
      w.oldLag = o.lagAt m ∧ w.oldGain = targetGain nan s.cfg mode o m ∧
      ∀ n, n < s.cfg.steps →
        let u := (segmentStart o nan (loopStart mode s) m n).work
        u.sub = m ∧ u.stepNo = n ∧ u.nsamp = s.cfg.samplesPerStep ∧
        u.wLag = runningSum nan .lagStep m n lag lagDelta ∧
        u.wGain = runningSum nan .gainStep m n gain gainDelta

/-- R175, R176: the fallback test compares the first target lag strictly with the scaled last lag; under fallback the
ramp starts at the first targets, otherwise at the persisted seed; a NaN last lag does not fall back. -/
def Obligations.FallbackSeedsTheRamp : Prop :=
  ∀ (nan : Draws) (mode : Mode) (o : Operands) (s : State),
    let sd := seedOf nan mode o s
    let up := F64.mul (nan ⟨.upRatio, 0, 0, 0⟩) s.cfg.upRatio s.lastLag
    let down := F64.mul (nan ⟨.downRatio, 0, 0, 0⟩) s.cfg.downRatio s.lastLag
    (sd.fallback = true ↔ F64.lt up (o.lagAt 0) = true ∨ F64.lt (o.lagAt 0) down = true) ∧
    (sd.fallback = true → sd.oldLag = o.lagAt 0 ∧ sd.oldGain = sd.g.getD 0 0) ∧
    (sd.fallback = false → sd.oldLag = s.lastLag ∧ sd.oldGain = s.lastGain) ∧
    (F64.isNaN s.lastLag = true → sd.fallback = false)

/-- R177: in mode PRE_GAIN the trial outputs, the trial damper memories and the multipliers are cleared, and under
fallback the first multiplier is 1.0; in the other modes nothing happens. -/
def Obligations.GainSearchStartsCleared : Prop :=
  ∀ s : State,
    (s.work.mode = .preGain →
      let t := initGainSearch s
      (∀ j k, j < subframes → k < s.cfg.segLen → (t.trial.getD j []).getD k Slot.unwritten = ⟨F64.zero, true⟩) ∧
      (∀ j k, j < subframes → k < dampTaps → (t.work.ddg.getD j []).getD k F64.one = F64.zero) ∧
      t.work.gmult.getD 0 F64.half = (if s.work.fallback = true then F64.one else F64.zero) ∧
      (∀ j, 0 < j → j < subframes → t.work.gmult.getD j F64.one = F64.zero)) ∧
    (s.work.mode ≠ .preGain → initGainSearch s = s)

/-! ### FRAME: results -/

/-- R202 to R205, R40, R41, R182, R184, R200: a frame command (`PF_PRE`, `PF_PRE_LA`, `PF_PRE_GAIN`, `PF_POST`) that
passes validation completes: BUSY 0, DONE 1; it writes and marks the OUT entries of its mode and leaves the others;
only gain search writes TRIAL, all of it; the exporting modes persist the last targets, gain search leaves FilterState;
LAG, GAIN, IN, CMD and the fault registers stay. -/
def Obligations.FrameCommandsComplete : Prop :=
  ∀ (mode : Mode) (s : State), s.wf → FrameLegal mode s →
    ∃ t, exec (frameInstr mode) s = .next t ∧
      t.busy = false ∧ t.done = true ∧ t.status = s.status &&& ~~~1#64 ||| 2#64 ∧ t.pending = none ∧
      (∀ k, k < samplesOf mode s.cfg → marked t (.output k) = true) ∧
      (∀ k, samplesOf mode s.cfg ≤ k → t.output[k]? = s.output[k]?) ∧
      (mode = .preGain → ∀ j k, j < subframes → k < s.cfg.segLen → marked t (.trial j k) = true) ∧
      (mode ≠ .preGain → t.trial = s.trial) ∧
      (mode ≠ .preGain → t.lastLag = readOperand s (.lag 3) ∧
        t.lastGain = (if mode = .post then
            F64.mul (drawsOf s ⟨.enhance, 3, 0, 0⟩) (readOperand s (.gain 3)) s.cfg.enhancer
          else readOperand s (.gain 3))) ∧
      (mode = .preGain → sameFilterState s t) ∧
      t.lag = s.lag ∧ t.gain = s.gain ∧ t.input = s.input ∧ t.cmd = s.cmd ∧
      t.faultCause = s.faultCause ∧ t.faultInfo = s.faultInfo ∧ t.cfg = s.cfg ∧ t.inputs = s.inputs ∧
      t.responses = s.responses

/-- R127, R129, R180, R183: a frame command that passes validation leaves in OUT, at each sample of the frame and, in the
lookahead modes, at each sample of the lookahead, the output of that sample's step; and after gain search in each lane up
to that sample's sub-frame (every lane in the lookahead) the step's trial sample: no later step of the command writes
over them. The lookahead's steps follow the export, with `INDEX` from `FRAME_LEN` on and the last sub-frame's number. -/
def Obligations.FrameOutputsAreTheSampleStepsOutputs : Prop :=
  ∀ (mode : Mode) (s : State), s.wf → FrameLegal mode s →
    ∃ t, exec (frameInstr mode) s = .next t ∧
      let o := operandsOf mode s
      (∀ m n i, m < subframes → n < s.cfg.steps → i < s.cfg.samplesPerStep →
        let u := sampleStart o (drawsOf s) (loopStart mode s) m n i
        u.work.index = s.cfg.subframeLen * m + s.cfg.samplesPerStep * n + i ∧ u.work.sub = m ∧
        t.output[u.work.index]? = some ⟨outputSample o (drawsOf s) u, true⟩ ∧
        (mode = .preGain → ∀ j, j ≤ m →
          (t.trial.getD j [])[u.work.index]? = some ⟨trialSample (drawsOf s) u j, true⟩)) ∧
      (mode = .preLa ∨ mode = .preGain → ∀ i, i < s.cfg.lookahead →
        let u := segment o (drawsOf s) i (lookaheadStart mode s)
        u.work.index = s.cfg.frameLen + i ∧ u.work.sub = 3 ∧
        t.output[u.work.index]? = some ⟨outputSample o (drawsOf s) u, true⟩ ∧
        (mode = .preGain → ∀ j, j < subframes →
          (t.trial.getD j [])[u.work.index]? = some ⟨trialSample (drawsOf s) u j, true⟩))

/-- R202, R137: with every target gain, the last gain and the damper memory zero, a frame command that passes validation
puts its input out bit for bit. The history and the input are taken below `2^1000`, so that no sum overflows
(log entry 15), and no coefficient above 1. -/
def Obligations.ZeroGainFramePassesTheInput : Prop :=
  ∀ (mode : Mode) (s : State), s.wf → FrameLegal mode s →
    (∀ m, m < subframes → F64.magBits (readOperand s (.gain m)) = 0) → F64.magBits s.lastGain = 0 →
    (∀ d ∈ s.damp, F64.magBits d = 0) → F64.isFinite s.cfg.enhancer = true →
    (∀ c ∈ s.cfg.dampCoef, F64.isFinite c = true) →
    (∀ row ∈ s.cfg.interpCoef, ∀ c ∈ row, F64.magBits c ≤ F64.magBits F64.one) →
    (∀ h ∈ s.hist, F64.isFinite h = true ∧ F64.units h ≤ 2 ^ 1000 * F64.oneUnits) →
    (∀ k, k < samplesOf mode s.cfg → F64.isFinite (readOperand s (.input k)) = true ∧
      F64.units (readOperand s (.input k)) ≤ 2 ^ 1000 * F64.oneUnits) →
    ∃ t, exec (frameInstr mode) s = .next t ∧
      ∀ k, k < samplesOf mode s.cfg → t.output[k]? = some ⟨readOperand s (.input k), true⟩

/-- R32, R33, R130, R181: after an exporting frame command (`PF_PRE`, `PF_PRE_LA`, `PF_POST`) that completes, `HIST[k]` is
the rounded sum of input and output of the sample at working position `FRAME_LEN + k`, or the old history entry there
where the history is longer than the frame; and DAMP is the working damper memory after the frame's last sample step, its
newest entry that sample's gain-scaled prediction. -/
def Obligations.HistoryIsInputPlusOutput : Prop :=
  ∀ (mode : Mode) (s t : State), s.wf → mode ≠ .preGain → FrameLegal mode s →
    exec (frameInstr mode) s = .next t →
      (∀ k, k < s.cfg.histLen →
        (s.cfg.histLen ≤ s.cfg.frameLen + k →
          t.hist.getD k 0 =
            F64.add (drawsOf s ⟨.histAdd, s.cfg.frameLen + k - s.cfg.histLen, 0, 0⟩)
              (readOperand s (.input (s.cfg.frameLen + k - s.cfg.histLen)))
              (peek t (.output (s.cfg.frameLen + k - s.cfg.histLen)))) ∧
        (s.cfg.frameLen + k < s.cfg.histLen → t.hist.getD k 0 = s.hist.getD (s.cfg.frameLen + k) 0)) ∧
      let u := sampleStart (operandsOf mode s) (drawsOf s) (loopStart mode s) 3 (s.cfg.steps - 1)
        (s.cfg.samplesPerStep - 1)
      t.damp = (sampleStep (operandsOf mode s) (drawsOf s) u).work.wdamp ∧
      t.damp.getD 0 0 =
        F64.mul (drawsOf s ⟨.gainMul, s.cfg.frameLen - 1, 0, 0⟩) u.work.wGain (predict (drawsOf s) u) ∧
      ∀ k, 0 < k → k < dampTaps → t.damp.getD k 0 = u.work.wdamp.getD (k - 1) 0

/-- R203: from one state, `PF_PRE_LA` leaves the FilterState `PF_PRE` leaves and the same OUT entries of the frame, and
does not write TRIAL. One state, so one set of NaN bits (log entry 5). -/
def Obligations.LookaheadCommandExtendsPre : Prop :=
  ∀ s : State, s.wf → FrameLegal .pre s →
    ∃ t u, exec .pfPre s = .next t ∧ exec .pfPreLa s = .next u ∧ sameFilterState t u ∧
      (∀ k, k < s.cfg.frameLen → u.output[k]? = t.output[k]?) ∧ u.trial = s.trial

/-- R204, R184: from one state, `PF_PRE_GAIN` gives the OUT that `PF_PRE_LA` gives, every entry: the trial path feeds
neither OUT nor WBUF; and it leaves FilterState as it was. One state, so one set of NaN bits (log entry 5). -/
def Obligations.GainSearchOutputIsLookaheadOutput : Prop :=
  ∀ s : State, s.wf → FrameLegal .preLa s →
    ∃ t u, exec .pfPreLa s = .next t ∧ exec .pfPreGain s = .next u ∧ u.output = t.output ∧
      sameFilterState s u ∧ u.status = t.status

/-- R205: `PF_POST` is `PF_PRE` from the same state with every `GAIN[m]` replaced by the product `GAIN[m] x ENHANCER`:
the same OUT, FilterState, STATUS and fault; and it does not write GAIN. One draw number, so one set of NaN bits
(log entry 5). -/
def Obligations.PostIsPreWithScaledGains : Prop :=
  ∀ s : State, s.wf → (∀ m, m < subframes → marked s (.gain m) = true) →
    let scaled := { s with gain := (List.range subframes).map fun m =>
      (⟨F64.mul (drawsOf s ⟨.enhance, m, 0, 0⟩) (peek s (.gain m)) s.cfg.enhancer, true⟩ : Slot) }
    ∃ t u, exec .pfPost s = .next t ∧ exec .pfPre scaled = .next u ∧ u.output = t.output ∧
      sameFilterState t u ∧ u.status = t.status ∧ u.faultCause = t.faultCause ∧ u.faultInfo = t.faultInfo ∧
      t.gain = s.gain

/-- R185: a frame command's results are a function of the mode, FilterState, LAG, GAIN and the IN entries it reads (and
of the free values of one draw number, log entries 4 and 5): two states that agree on these, whatever their old OUT,
TRIAL, CMD and working state, end with the same FilterState and the same entries of OUT and TRIAL that the command
writes, or with the same fault. -/
def Obligations.FrameResultsDependOnlyOnOperands : Prop :=
  ∀ (mode : Mode) (s u : State), s.wf → u.wf → u.cfg = s.cfg → sameFilterState s u → u.draws = s.draws →
    u.lag = s.lag → u.gain = s.gain → (∀ k, k < samplesOf mode s.cfg → u.input[k]? = s.input[k]?) →
    ∃ t v, exec (frameInstr mode) s = .next t ∧ exec (frameInstr mode) u = .next v ∧
      (FrameLegal mode s ↔ FrameLegal mode u) ∧ sameFilterState t v ∧
      (FrameLegal mode s →
        (∀ k, k < samplesOf mode s.cfg → v.output[k]? = t.output[k]?) ∧
        (mode = .preGain → v.trial = t.trial)) ∧
      (¬ FrameLegal mode s → v.faultCause = t.faultCause ∧ v.faultInfo = t.faultInfo)

/-- R36: FilterState changes at only four events: a completed frame command in an exporting mode, a completed `PF_INIT`,
a reset, and a host write while the block is idle. -/
def Obligations.FilterStateChangesAtFourEventsOnly : Prop :=
  ∀ s t : State, step s = .next t → ¬ sameFilterState s t →
    (blockIsNext s ∧ t.done = true ∧ t.busy = false ∧
      ∃ i, s.pending = some (encode i) ∧ (i = .pfPre ∨ i = .pfPreLa ∨ i = .pfPost ∨ i = .pfInit)) ∨
    (∃ rest, s.inputs = .reset :: rest) ∨
    (s.busy = false ∧ ∃ addr v rest r, s.inputs = .write addr 8 v :: rest ∧
      accessReg s.cfg addr 8 = some r ∧ isFilterStateReg r = true)

/-- R37 to R39, R42: no turn of the block writes LAG, GAIN, IN or CMD. -/
def Obligations.BlockNeverWritesItsInputs : Prop :=
  ∀ s t : State, blockTurn s = .next t → t.lag = s.lag ∧ t.gain = s.gain ∧ t.input = s.input ∧ t.cmd = s.cmd

/-- R202 to R207, R235: a command leaves every byte of the window as it was, but the bytes of the registers it may
write. -/
def Obligations.CommandsWriteOnlyTheirRegisters : Prop :=
  ∀ (i : Instr) (s t : State) (a : Nat), s.wf → exec i s = .next t →
    (∀ r, decodeOffset s.cfg (a - a % 8) = some r → commandWrites i s.cfg r = false) →
    windowByte t a = windowByte s a

/-- R208: a frame command records `UnwrittenRead` once for each unmarked operand entry of its mode, and nothing else;
the other operands are the registers' values. That a command which faults in validation records all of its mode's
unmarked operands too is the model's choice (log entry 8). -/
def Obligations.UnwrittenOperandsAreRecordedOnce : Prop :=
  ∀ (mode : Mode) (s t : State), exec (frameInstr mode) s = .next t →
    t.record = s.record ++
      List.replicate ((operandRegs mode s.cfg).countP fun r => !marked s r) Violation.unwrittenRead ∧
    ∀ r, marked s r = true → readOperand s r = peek s r

/-! ### host accesses -/

/-- R71: the register map of a legal configuration is one to one: each register's offset is aligned, inside the window
and decodes to it, and an offset that decodes to a register is that register's. -/
def Obligations.RegisterMapIsOneToOne : Prop :=
  ∀ c : Config, c.wf →
    (∀ r : Reg, r.inMap c = true →
      offsetOf c r % 8 = 0 ∧ offsetOf c r < windowBytes ∧ decodeOffset c (offsetOf c r) = some r) ∧
    (∀ (off : Nat) (r : Reg), decodeOffset c off = some r → r.inMap c = true ∧ offsetOf c r = off)

/-- R73: byte `a + i` of the window is bits `8i+7 : 8i` of the register at `a`. -/
def Obligations.WindowIsLittleEndian : Prop :=
  ∀ (s : State) (r : Reg) (i : Nat), s.cfg.wf → r.inMap s.cfg = true → i < 8 →
    windowByte s (offsetOf s.cfg r + i) = some ((peek s r).extractLsb' (8 * i) 8)

/-- R200: a host write of `v` to CMD. While busy it is the violation `BusyAccess` without effect. Otherwise `v` is stored;
while a fault is recorded every word but `0x6` is ignored, and otherwise the command becomes pending, with BUSY set
and DONE cleared. -/
def Obligations.CommandWriteIsAccepted : Prop :=
  ∀ (s : State) (v : Word) (rest : List Event), s.wf →
    s.inputs = .write (addressOf s.cfg .cmd) 8 v :: rest →
    ∃ t, step s = .next t ∧ t.inputs = rest ∧ sameFilterState s t ∧ sameDataRegisters s t ∧
      t.faultCause = s.faultCause ∧ t.faultInfo = s.faultInfo ∧ t.work = s.work ∧
      (s.busy = true → t.record = s.record ++ [.busyAccess] ∧ sameControl s t) ∧
      (s.busy = false → s.faulted = true → v ≠ 6#64 →
        t.record = s.record ∧ t.cmd = v ∧ t.status = s.status ∧ t.pending = none) ∧
      (s.busy = false → (s.faulted = true → v = 6#64) →
        t.record = s.record ∧ t.cmd = v ∧ t.pending = some v ∧ t.busy = true ∧ t.done = false ∧
        t.faulted = s.faulted)

/-- R78, R49, R232: a host read changes no register, and returns one value; a read that is no violation returns the
register's value and records nothing. While idle that is every 8-byte read of a register without a written mark, or
with its mark set; and the read of an entry of LAG, GAIN, IN, OUT or TRIAL whose mark is clear records `UnwrittenRead`
and nothing else. -/
def Obligations.ReadsChangeNoRegister : Prop :=
  ∀ (s : State) (addr width : Nat) (rest : List Event), s.inputs = .read addr width :: rest →
    ∃ t v, step s = .next t ∧ t.inputs = rest ∧ t.responses = v :: s.responses ∧
      sameFilterState s t ∧ sameDataRegisters s t ∧ sameControl s t ∧ t.work = s.work ∧
      (readViolation s addr width = none →
        (∃ r, accessReg s.cfg addr width = some r ∧ v = peek s r) ∧ t.record = s.record) ∧
      ∀ r : Reg, s.cfg.wf → r.inMap s.cfg = true → addr = addressOf s.cfg r → width = 8 → s.busy = false →
        ((hasMark r = true → marked s r = true) → v = peek s r ∧ t.record = s.record) ∧
        (hasMark r = true → marked s r = false → t.record = s.record ++ [.unwrittenRead])

/-- R74, R75: an access from `PF_BASE` on that is not 8 bytes wide, not 8-byte aligned or not mapped is the violation
`AccessFault`: it is recorded, and no access is performed. Two cases are the model's choice: an offset past the window's
64 KiB counts as unmapped (log entry 9), and while busy, where R79 applies too, `AccessFault` alone is recorded (log
entry 7). -/
def Obligations.UndefinedAccessesAreAccessFaults : Prop :=
  ∀ (s : State) (off width : Nat) (v : Word) (rest : List Event),
    (width ≠ 8 ∨ off % 8 ≠ 0 ∨ decodeOffset s.cfg off = none) →
    (s.inputs = .write (s.cfg.pfBase + off) width v :: rest →
      step s = .next { s with inputs := rest, record := s.record ++ [.accessFault] }) ∧
    (s.inputs = .read (s.cfg.pfBase + off) width :: rest →
      ∃ t, step s = .next t ∧ t.record = s.record ++ [.accessFault] ∧ t.inputs = rest ∧
        sameFilterState s t ∧ sameDataRegisters s t ∧ sameControl s t ∧ t.work = s.work)

/-- R76, R232: a host write to a read-only register is the violation `AccessFault`: it is recorded and nothing else
changes. While busy R79 makes any write `BusyAccess`; that `AccessFault` alone is recorded then is the model's choice
(log entry 7). -/
def Obligations.ReadOnlyRegistersRefuseWrites : Prop :=
  ∀ (s : State) (r : Reg) (v : Word) (rest : List Event), s.cfg.wf → r.inMap s.cfg = true →
    r.readOnly = true → s.inputs = .write (addressOf s.cfg r) 8 v :: rest →
    step s = .next { s with inputs := rest, record := s.record ++ [.accessFault] }

/-- R79: while BUSY = 1, a write to a writable register and a read of any register but STATUS, FAULT_CAUSE, FAULT_INFO
and CMD is the violation `BusyAccess`, and a read of one of those four returns its value. (A write to a read-only
register is recorded as `AccessFault` even then: the model's choice, log entry 7.) -/
def Obligations.BusyWindowAllowsFourReads : Prop :=
  ∀ (s : State) (r : Reg) (v : Word) (rest : List Event), s.cfg.wf → s.busy = true → r.inMap s.cfg = true →
    (r.readOnly = false → s.inputs = .write (addressOf s.cfg r) 8 v :: rest →
      step s = .next { s with inputs := rest, record := s.record ++ [.busyAccess] }) ∧
    (s.inputs = .read (addressOf s.cfg r) 8 :: rest → ¬ (r = .cmd ∨ r = .status ∨ r = .faultCause ∨ r = .faultInfo) →
      ∃ t, step s = .next t ∧ t.record = s.record ++ [.busyAccess] ∧
        sameFilterState s t ∧ sameDataRegisters s t ∧ sameControl s t) ∧
    (s.inputs = .read (addressOf s.cfg r) 8 :: rest → (r = .cmd ∨ r = .status ∨ r = .faultCause ∨ r = .faultInfo) →
      step s = .next { s with inputs := rest, responses := peek s r :: s.responses })

/-- R72, R76, R49: while idle, a host write to a read/write register other than CMD stores the 64 bits unchanged, NaN
payloads included, and the read that follows returns them; no violation is recorded. -/
def Obligations.WrittenRegistersReadBack : Prop :=
  ∀ (s : State) (r : Reg) (v : Word) (rest : List Event), s.wf → s.busy = false → r.inMap s.cfg = true →
    r.readOnly = false → r ≠ .cmd →
    s.inputs = .write (addressOf s.cfg r) 8 v :: .read (addressOf s.cfg r) 8 :: rest →
    ∃ t u, step s = .next t ∧ step t = .next u ∧ u.inputs = rest ∧ u.responses = v :: s.responses ∧
      u.record = s.record ∧ marked u r = true ∧ ∀ q, q ≠ r → peek u q = peek s q

/-- R106, R80, R81: `wait` terminates. From a busy state whose next event is a poll that gives the block its turn after
`polls` more busy polls, `polls + 3` steps end the poll with BUSY = 0, the poll having read BUSY = 1 `polls + 1` times
and then STATUS without BUSY. Where the block has had its turn before the poll, one step ends it, with the one read of
STATUS. That the event list fixes the number of polls and the place of the turn is the model's choice (log entry 18). -/
def Obligations.WaitTerminates : Prop :=
  ∀ (s : State) (polls : Nat) (rest : List Event), s.wf → s.inputs = .wait polls :: rest →
    (s.busy = true →
      ∃ t, Host.Core.run Sys2Proof.core (polls + 3) s = .next t ∧ t.inputs = rest ∧ t.busy = false ∧
        t.pending = none ∧ t.responses = t.status :: (List.replicate (polls + 1) s.status ++ s.responses)) ∧
    (s.busy = false → step s = .next { s with inputs := rest, responses := s.status :: s.responses })
end

