-- ==== Sys2Proof/Laws/Float.lean ====
section
/-! SUPPORT. The small lemmas of binary64 images: sign, magnitude, classes, NaN draws, and that a value already in
the format rounds to itself. -/

namespace Sys2Proof.F64

/-! ### sign and magnitude -/

theorem magBits_lt (x : F64) : magBits x < 2 ^ 63 := Nat.mod_lt _ (by decide)

theorem infBits_lt : infBits < 2 ^ 63 := by decide

theorem magBits_make {neg : Bool} {m : Nat} (h : m < 2 ^ 63) : magBits (make neg m) = m := by
  unfold magBits make
  rw [BitVec.toNat_ofNat]
  cases neg <;> simp <;> omega

theorem msb_make {neg : Bool} {m : Nat} (h : m < 2 ^ 63) : (make neg m).msb = neg := by
  unfold make
  rw [BitVec.msb_eq_decide, BitVec.toNat_ofNat]
  cases neg <;> simp <;> omega

/-- An image is its sign and its magnitude. -/
theorem make_self (x : F64) : make x.msb (magBits x) = x := by
  apply BitVec.eq_of_toNat_eq
  unfold make magBits
  rw [BitVec.msb_eq_decide, BitVec.toNat_ofNat]
  have := x.isLt
  by_cases h : 2 ^ 63 ≤ x.toNat
  · simp only [h, decide_true, ↓reduceIte]; omega
  · simp only [h, decide_false, Bool.false_eq_true, ↓reduceIte]; omega

theorem ext_iff_parts {x y : F64} : x = y ↔ x.msb = y.msb ∧ magBits x = magBits y := by
  constructor
  · rintro rfl; exact ⟨rfl, rfl⟩
  · rintro ⟨hs, hm⟩
    rw [← make_self x, ← make_self y, hs, hm]

theorem msb_neg (x : F64) : (neg x).msb = !x.msb := by
  unfold neg
  rw [BitVec.msb_xor]
  have : (0x8000000000000000#64).msb = true := by decide
  rw [this, Bool.xor_true]

theorem magBits_neg (x : F64) : magBits (neg x) = magBits x := by
  unfold magBits neg
  have : (0x8000000000000000#64).toNat % 2 ^ 63 = 0 := by decide
  rw [BitVec.toNat_xor, Nat.xor_mod_two_pow, this, Nat.xor_zero]

/-- `-a` is an involution: it flips the sign and nothing else (R14). -/
@[simp] theorem neg_neg (x : F64) : neg (neg x) = x := by
  rw [ext_iff_parts]; simp [msb_neg, magBits_neg]

/-! ### classes -/

/-- Every value is finite, infinite or a NaN. -/
theorem classes (x : F64) :
    (isFinite x = true ∧ isInf x = false ∧ isNaN x = false) ∨
    (isFinite x = false ∧ isInf x = true ∧ isNaN x = false) ∨
    (isFinite x = false ∧ isInf x = false ∧ isNaN x = true) := by
  unfold isFinite isInf isNaN
  rcases lt_trichotomy (magBits x) infBits with h | h | h
  · refine .inl ⟨by simpa, by simp; omega, by simp; omega⟩
  · refine .inr (.inl ⟨by simp; omega, by simpa, by simp; omega⟩)
  · refine .inr (.inr ⟨by simp; omega, by simp; omega, by simpa⟩)

theorem not_nan_of_finite {x : F64} (h : isFinite x = true) : isNaN x = false := by
  rcases classes x with ⟨-, -, c⟩ | ⟨c, -, -⟩ | ⟨c, -, -⟩ <;> simp_all

theorem not_inf_of_finite {x : F64} (h : isFinite x = true) : isInf x = false := by
  rcases classes x with ⟨-, c, -⟩ | ⟨c, -, -⟩ | ⟨c, -, -⟩ <;> simp_all

@[simp] theorem isNaN_neg (x : F64) : isNaN (neg x) = isNaN x := by simp [isNaN, magBits_neg]
@[simp] theorem isInf_neg (x : F64) : isInf (neg x) = isInf x := by simp [isInf, magBits_neg]
@[simp] theorem isFinite_neg (x : F64) : isFinite (neg x) = isFinite x := by simp [isFinite, magBits_neg]

/-- A drawn NaN is a NaN. -/
@[simp] theorem isNaN_asNaN (draw : F64) : isNaN (asNaN draw) = true := by
  unfold asNaN
  split
  · assumption
  · decide

/-- Every NaN can be drawn. -/
theorem asNaN_of_nan {x : F64} (h : isNaN x = true) : asNaN x = x := by simp [asNaN, h]

/-! ### narrowing -/

@[simp] theorem rneDiv_one (n : Nat) : rneDiv n 1 = n := by
  unfold rneDiv; simp [Nat.mod_one]

theorem rneDiv_mul (k d : Nat) (hd : 0 < d) : rneDiv (k * d) d = k := by
  unfold rneDiv
  rw [Nat.mul_div_cancel _ hd, Nat.mul_mod_left]
  simp only [Nat.mul_zero]
  rw [if_neg (by omega)]

theorem roundMag_zero (d : Nat) : roundMag 0 d = 0 := by
  unfold roundMag rneDiv
  simp

theorem roundMag_le (n d : Nat) : roundMag n d ≤ infBits := Nat.min_le_right _ _

/-- A value of the format rounds to itself. -/
theorem roundMag_unitsOf {m : Nat} (h : m < infBits) : roundMag (unitsOf m) 1 = m := by
  have split52 : m = 2 ^ 52 * (m / 2 ^ 52) + m % 2 ^ 52 := (Nat.div_add_mod m (2 ^ 52)).symm
  have hf : m % 2 ^ 52 < 2 ^ 52 := Nat.mod_lt _ (by decide)
  unfold unitsOf
  split
  · rename_i hb
    have small : m < 2 ^ 52 := by omega
    have e0 : Nat.log2 (m / 1) - 52 = 0 := by
      rw [Nat.div_one]
      rcases Nat.eq_zero_or_pos m with rfl | pos
      · simp
      · have := (Nat.log2_lt (n := m) (k := 52) (by omega)).mpr small
        omega
    unfold roundMag
    simp only [e0, Nat.zero_mul, Nat.pow_zero, Nat.mul_one, rneDiv_one, Nat.zero_add]
    omega
  · rename_i hb
    obtain ⟨b, hb'⟩ : ∃ b, m / 2 ^ 52 = b + 1 := ⟨m / 2 ^ 52 - 1, by omega⟩
    generalize hF : m % 2 ^ 52 = f at *
    rw [hb', Nat.add_sub_cancel]
    have log : Nat.log2 ((2 ^ 52 + f) * 2 ^ b) = 52 + b := by
      have hne : (2 ^ 52 + f) * 2 ^ b ≠ 0 := by positivity
      have lo : 2 ^ (52 + b) ≤ (2 ^ 52 + f) * 2 ^ b := by
        rw [Nat.pow_add]; exact Nat.mul_le_mul_right _ (Nat.le_add_right _ _)
      have hi : (2 ^ 52 + f) * 2 ^ b < 2 ^ (52 + b + 1) := by
        rw [show 52 + b + 1 = 53 + b by omega, Nat.pow_add]
        exact Nat.mul_lt_mul_of_pos_right (by omega) (by positivity)
      have h1 := (Nat.le_log2 hne).mpr lo
      have h2 := (Nat.log2_lt hne).mpr hi
      omega
    unfold roundMag
    rw [Nat.div_one, log, Nat.add_sub_cancel_left]
    simp only [Nat.one_mul]
    rw [rneDiv_mul _ _ (by positivity), Nat.min_eq_left] <;> rw [hb'] at split52 <;> omega

/-- The rounded magnitude of a finite value's units is its own magnitude. -/
theorem roundMag_units {x : F64} (h : isFinite x = true) : roundMag (units x) 1 = magBits x :=
  roundMag_unitsOf (by simpa [isFinite] using h)

end Sys2Proof.F64
end

