-- ==== Sys2Proof/Laws/State.lean ====
section
/-! SUPPORT. One lemma per field per update: what each state update does to each field of State, so that no later
proof unfolds a record update. Beside them, what UPDATE does to each element of the working state it writes. -/

namespace Sys2Proof.Machine

/-! ### `violate` -/

@[simp] theorem violate_cfg (v : Violation) (s : State) : (violate v s).cfg = s.cfg := rfl
@[simp] theorem violate_hist (v : Violation) (s : State) : (violate v s).hist = s.hist := rfl
@[simp] theorem violate_damp (v : Violation) (s : State) : (violate v s).damp = s.damp := rfl
@[simp] theorem violate_lastLag (v : Violation) (s : State) : (violate v s).lastLag = s.lastLag := rfl
@[simp] theorem violate_lastGain (v : Violation) (s : State) : (violate v s).lastGain = s.lastGain := rfl
@[simp] theorem violate_lag (v : Violation) (s : State) : (violate v s).lag = s.lag := rfl
@[simp] theorem violate_gain (v : Violation) (s : State) : (violate v s).gain = s.gain := rfl
@[simp] theorem violate_input (v : Violation) (s : State) : (violate v s).input = s.input := rfl
@[simp] theorem violate_output (v : Violation) (s : State) : (violate v s).output = s.output := rfl
@[simp] theorem violate_trial (v : Violation) (s : State) : (violate v s).trial = s.trial := rfl
@[simp] theorem violate_cmd (v : Violation) (s : State) : (violate v s).cmd = s.cmd := rfl
@[simp] theorem violate_status (v : Violation) (s : State) : (violate v s).status = s.status := rfl
@[simp] theorem violate_faultCause (v : Violation) (s : State) : (violate v s).faultCause = s.faultCause := rfl
@[simp] theorem violate_faultInfo (v : Violation) (s : State) : (violate v s).faultInfo = s.faultInfo := rfl
@[simp] theorem violate_pending (v : Violation) (s : State) : (violate v s).pending = s.pending := rfl
@[simp] theorem violate_work (v : Violation) (s : State) : (violate v s).work = s.work := rfl
@[simp] theorem violate_record (v : Violation) (s : State) : (violate v s).record = s.record ++ [v] := rfl
@[simp] theorem violate_draws (v : Violation) (s : State) : (violate v s).draws = s.draws := rfl
@[simp] theorem violate_inputs (v : Violation) (s : State) : (violate v s).inputs = s.inputs := rfl
@[simp] theorem violate_responses (v : Violation) (s : State) : (violate v s).responses = s.responses := rfl

/-! ### `respond` -/

@[simp] theorem respond_cfg (v : Word) (s : State) : (respond v s).cfg = s.cfg := rfl
@[simp] theorem respond_hist (v : Word) (s : State) : (respond v s).hist = s.hist := rfl
@[simp] theorem respond_damp (v : Word) (s : State) : (respond v s).damp = s.damp := rfl
@[simp] theorem respond_lastLag (v : Word) (s : State) : (respond v s).lastLag = s.lastLag := rfl
@[simp] theorem respond_lastGain (v : Word) (s : State) : (respond v s).lastGain = s.lastGain := rfl
@[simp] theorem respond_lag (v : Word) (s : State) : (respond v s).lag = s.lag := rfl
@[simp] theorem respond_gain (v : Word) (s : State) : (respond v s).gain = s.gain := rfl
@[simp] theorem respond_input (v : Word) (s : State) : (respond v s).input = s.input := rfl
@[simp] theorem respond_output (v : Word) (s : State) : (respond v s).output = s.output := rfl
@[simp] theorem respond_trial (v : Word) (s : State) : (respond v s).trial = s.trial := rfl
@[simp] theorem respond_cmd (v : Word) (s : State) : (respond v s).cmd = s.cmd := rfl
@[simp] theorem respond_status (v : Word) (s : State) : (respond v s).status = s.status := rfl
@[simp] theorem respond_faultCause (v : Word) (s : State) : (respond v s).faultCause = s.faultCause := rfl
@[simp] theorem respond_faultInfo (v : Word) (s : State) : (respond v s).faultInfo = s.faultInfo := rfl
@[simp] theorem respond_pending (v : Word) (s : State) : (respond v s).pending = s.pending := rfl
@[simp] theorem respond_work (v : Word) (s : State) : (respond v s).work = s.work := rfl
@[simp] theorem respond_record (v : Word) (s : State) : (respond v s).record = s.record := rfl
@[simp] theorem respond_draws (v : Word) (s : State) : (respond v s).draws = s.draws := rfl
@[simp] theorem respond_inputs (v : Word) (s : State) : (respond v s).inputs = s.inputs := rfl
@[simp] theorem respond_responses (v : Word) (s : State) : (respond v s).responses = v :: s.responses := rfl

/-! ### `respondFree` -/

@[simp] theorem respondFree_cfg (s : State) : (respondFree s).cfg = s.cfg := rfl
@[simp] theorem respondFree_hist (s : State) : (respondFree s).hist = s.hist := rfl
@[simp] theorem respondFree_damp (s : State) : (respondFree s).damp = s.damp := rfl
@[simp] theorem respondFree_lastLag (s : State) : (respondFree s).lastLag = s.lastLag := rfl
@[simp] theorem respondFree_lastGain (s : State) : (respondFree s).lastGain = s.lastGain := rfl
@[simp] theorem respondFree_lag (s : State) : (respondFree s).lag = s.lag := rfl
@[simp] theorem respondFree_gain (s : State) : (respondFree s).gain = s.gain := rfl
@[simp] theorem respondFree_input (s : State) : (respondFree s).input = s.input := rfl
@[simp] theorem respondFree_output (s : State) : (respondFree s).output = s.output := rfl
@[simp] theorem respondFree_trial (s : State) : (respondFree s).trial = s.trial := rfl
@[simp] theorem respondFree_cmd (s : State) : (respondFree s).cmd = s.cmd := rfl
@[simp] theorem respondFree_status (s : State) : (respondFree s).status = s.status := rfl
@[simp] theorem respondFree_faultCause (s : State) : (respondFree s).faultCause = s.faultCause := rfl
@[simp] theorem respondFree_faultInfo (s : State) : (respondFree s).faultInfo = s.faultInfo := rfl
@[simp] theorem respondFree_pending (s : State) : (respondFree s).pending = s.pending := rfl
@[simp] theorem respondFree_work (s : State) : (respondFree s).work = s.work := rfl
@[simp] theorem respondFree_record (s : State) : (respondFree s).record = s.record := rfl
@[simp] theorem respondFree_draws (s : State) : (respondFree s).draws = s.draws + 1 := rfl
@[simp] theorem respondFree_inputs (s : State) : (respondFree s).inputs = s.inputs := rfl
@[simp] theorem respondFree_responses (s : State) :
    (respondFree s).responses = Config.freeRead s.draws :: s.responses := rfl

/-! ### `accept` -/

@[simp] theorem accept_cfg (v : Word) (s : State) : (accept v s).cfg = s.cfg := rfl
@[simp] theorem accept_hist (v : Word) (s : State) : (accept v s).hist = s.hist := rfl
@[simp] theorem accept_damp (v : Word) (s : State) : (accept v s).damp = s.damp := rfl
@[simp] theorem accept_lastLag (v : Word) (s : State) : (accept v s).lastLag = s.lastLag := rfl
@[simp] theorem accept_lastGain (v : Word) (s : State) : (accept v s).lastGain = s.lastGain := rfl
@[simp] theorem accept_lag (v : Word) (s : State) : (accept v s).lag = s.lag := rfl
@[simp] theorem accept_gain (v : Word) (s : State) : (accept v s).gain = s.gain := rfl
@[simp] theorem accept_input (v : Word) (s : State) : (accept v s).input = s.input := rfl
@[simp] theorem accept_output (v : Word) (s : State) : (accept v s).output = s.output := rfl
@[simp] theorem accept_trial (v : Word) (s : State) : (accept v s).trial = s.trial := rfl
@[simp] theorem accept_cmd (v : Word) (s : State) : (accept v s).cmd = s.cmd := rfl
@[simp] theorem accept_status (v : Word) (s : State) : (accept v s).status = statusAccepted s.status := rfl
@[simp] theorem accept_faultCause (v : Word) (s : State) : (accept v s).faultCause = s.faultCause := rfl
@[simp] theorem accept_faultInfo (v : Word) (s : State) : (accept v s).faultInfo = s.faultInfo := rfl
@[simp] theorem accept_pending (v : Word) (s : State) : (accept v s).pending = some v := rfl
@[simp] theorem accept_work (v : Word) (s : State) : (accept v s).work = s.work := rfl
@[simp] theorem accept_record (v : Word) (s : State) : (accept v s).record = s.record := rfl
@[simp] theorem accept_draws (v : Word) (s : State) : (accept v s).draws = s.draws := rfl
@[simp] theorem accept_inputs (v : Word) (s : State) : (accept v s).inputs = s.inputs := rfl
@[simp] theorem accept_responses (v : Word) (s : State) : (accept v s).responses = s.responses := rfl

/-! ### `complete` -/

@[simp] theorem complete_cfg (s : State) : (complete s).cfg = s.cfg := rfl
@[simp] theorem complete_hist (s : State) : (complete s).hist = s.hist := rfl
@[simp] theorem complete_damp (s : State) : (complete s).damp = s.damp := rfl
@[simp] theorem complete_lastLag (s : State) : (complete s).lastLag = s.lastLag := rfl
@[simp] theorem complete_lastGain (s : State) : (complete s).lastGain = s.lastGain := rfl
@[simp] theorem complete_lag (s : State) : (complete s).lag = s.lag := rfl
@[simp] theorem complete_gain (s : State) : (complete s).gain = s.gain := rfl
@[simp] theorem complete_input (s : State) : (complete s).input = s.input := rfl
@[simp] theorem complete_output (s : State) : (complete s).output = s.output := rfl
@[simp] theorem complete_trial (s : State) : (complete s).trial = s.trial := rfl
@[simp] theorem complete_cmd (s : State) : (complete s).cmd = s.cmd := rfl
@[simp] theorem complete_status (s : State) : (complete s).status = statusCompleted s.status := rfl
@[simp] theorem complete_faultCause (s : State) : (complete s).faultCause = s.faultCause := rfl
@[simp] theorem complete_faultInfo (s : State) : (complete s).faultInfo = s.faultInfo := rfl
@[simp] theorem complete_pending (s : State) : (complete s).pending = none := rfl
@[simp] theorem complete_work (s : State) : (complete s).work = s.work := rfl
@[simp] theorem complete_record (s : State) : (complete s).record = s.record := rfl
@[simp] theorem complete_draws (s : State) : (complete s).draws = s.draws := rfl
@[simp] theorem complete_inputs (s : State) : (complete s).inputs = s.inputs := rfl
@[simp] theorem complete_responses (s : State) : (complete s).responses = s.responses := rfl

/-! ### `takeFault` -/

@[simp] theorem takeFault_cfg (f : CommandFault) (s : State) : (takeFault f s).cfg = s.cfg := rfl
@[simp] theorem takeFault_hist (f : CommandFault) (s : State) : (takeFault f s).hist = s.hist := rfl
@[simp] theorem takeFault_damp (f : CommandFault) (s : State) : (takeFault f s).damp = s.damp := rfl
@[simp] theorem takeFault_lastLag (f : CommandFault) (s : State) : (takeFault f s).lastLag = s.lastLag := rfl
@[simp] theorem takeFault_lastGain (f : CommandFault) (s : State) : (takeFault f s).lastGain = s.lastGain := rfl
@[simp] theorem takeFault_lag (f : CommandFault) (s : State) : (takeFault f s).lag = s.lag := rfl
@[simp] theorem takeFault_gain (f : CommandFault) (s : State) : (takeFault f s).gain = s.gain := rfl
@[simp] theorem takeFault_input (f : CommandFault) (s : State) : (takeFault f s).input = s.input := rfl
@[simp] theorem takeFault_output (f : CommandFault) (s : State) : (takeFault f s).output = s.output := rfl
@[simp] theorem takeFault_trial (f : CommandFault) (s : State) : (takeFault f s).trial = s.trial := rfl
@[simp] theorem takeFault_cmd (f : CommandFault) (s : State) : (takeFault f s).cmd = s.cmd := rfl
@[simp] theorem takeFault_status (f : CommandFault) (s : State) :
    (takeFault f s).status = statusFaulted s.status := rfl
@[simp] theorem takeFault_faultCause (f : CommandFault) (s : State) :
    (takeFault f s).faultCause = causeWord f.cause := rfl
@[simp] theorem takeFault_faultInfo (f : CommandFault) (s : State) :
    (takeFault f s).faultInfo = infoWord f.info := rfl
@[simp] theorem takeFault_pending (f : CommandFault) (s : State) : (takeFault f s).pending = none := rfl
@[simp] theorem takeFault_work (f : CommandFault) (s : State) : (takeFault f s).work = s.work := rfl
@[simp] theorem takeFault_record (f : CommandFault) (s : State) : (takeFault f s).record = s.record := rfl
@[simp] theorem takeFault_draws (f : CommandFault) (s : State) : (takeFault f s).draws = s.draws := rfl
@[simp] theorem takeFault_inputs (f : CommandFault) (s : State) : (takeFault f s).inputs = s.inputs := rfl
@[simp] theorem takeFault_responses (f : CommandFault) (s : State) : (takeFault f s).responses = s.responses := rfl

/-! ### `clearFault` -/

@[simp] theorem clearFault_cfg (s : State) : (clearFault s).cfg = s.cfg := rfl
@[simp] theorem clearFault_hist (s : State) : (clearFault s).hist = s.hist := rfl
@[simp] theorem clearFault_damp (s : State) : (clearFault s).damp = s.damp := rfl
@[simp] theorem clearFault_lastLag (s : State) : (clearFault s).lastLag = s.lastLag := rfl
@[simp] theorem clearFault_lastGain (s : State) : (clearFault s).lastGain = s.lastGain := rfl
@[simp] theorem clearFault_lag (s : State) : (clearFault s).lag = s.lag := rfl
@[simp] theorem clearFault_gain (s : State) : (clearFault s).gain = s.gain := rfl
@[simp] theorem clearFault_input (s : State) : (clearFault s).input = s.input := rfl
@[simp] theorem clearFault_output (s : State) : (clearFault s).output = s.output := rfl
@[simp] theorem clearFault_trial (s : State) : (clearFault s).trial = s.trial := rfl
@[simp] theorem clearFault_cmd (s : State) : (clearFault s).cmd = s.cmd := rfl
@[simp] theorem clearFault_status (s : State) : (clearFault s).status = statusCleared s.status := rfl
@[simp] theorem clearFault_faultCause (s : State) : (clearFault s).faultCause = 0 := rfl
@[simp] theorem clearFault_faultInfo (s : State) : (clearFault s).faultInfo = 0 := rfl
@[simp] theorem clearFault_pending (s : State) : (clearFault s).pending = s.pending := rfl
@[simp] theorem clearFault_work (s : State) : (clearFault s).work = s.work := rfl
@[simp] theorem clearFault_record (s : State) : (clearFault s).record = s.record := rfl
@[simp] theorem clearFault_draws (s : State) : (clearFault s).draws = s.draws := rfl
@[simp] theorem clearFault_inputs (s : State) : (clearFault s).inputs = s.inputs := rfl
@[simp] theorem clearFault_responses (s : State) : (clearFault s).responses = s.responses := rfl

/-! ### `initFilterState` -/

@[simp] theorem initFilterState_cfg (s : State) : (initFilterState s).cfg = s.cfg := rfl
@[simp] theorem initFilterState_hist (s : State) :
    (initFilterState s).hist = List.replicate s.cfg.histLen F64.zero := rfl
@[simp] theorem initFilterState_damp (s : State) : (initFilterState s).damp = List.replicate dampTaps F64.zero := rfl
@[simp] theorem initFilterState_lastLag (s : State) : (initFilterState s).lastLag = s.cfg.resetLag := rfl
@[simp] theorem initFilterState_lastGain (s : State) : (initFilterState s).lastGain = s.cfg.resetGain := rfl
@[simp] theorem initFilterState_lag (s : State) : (initFilterState s).lag = s.lag := rfl
@[simp] theorem initFilterState_gain (s : State) : (initFilterState s).gain = s.gain := rfl
@[simp] theorem initFilterState_input (s : State) : (initFilterState s).input = s.input := rfl
@[simp] theorem initFilterState_output (s : State) : (initFilterState s).output = s.output := rfl
@[simp] theorem initFilterState_trial (s : State) : (initFilterState s).trial = s.trial := rfl
@[simp] theorem initFilterState_cmd (s : State) : (initFilterState s).cmd = s.cmd := rfl
@[simp] theorem initFilterState_status (s : State) : (initFilterState s).status = s.status := rfl
@[simp] theorem initFilterState_faultCause (s : State) : (initFilterState s).faultCause = s.faultCause := rfl
@[simp] theorem initFilterState_faultInfo (s : State) : (initFilterState s).faultInfo = s.faultInfo := rfl
@[simp] theorem initFilterState_pending (s : State) : (initFilterState s).pending = s.pending := rfl
@[simp] theorem initFilterState_work (s : State) : (initFilterState s).work = s.work := rfl
@[simp] theorem initFilterState_record (s : State) : (initFilterState s).record = s.record := rfl
@[simp] theorem initFilterState_draws (s : State) : (initFilterState s).draws = s.draws := rfl
@[simp] theorem initFilterState_inputs (s : State) : (initFilterState s).inputs = s.inputs := rfl
@[simp] theorem initFilterState_responses (s : State) : (initFilterState s).responses = s.responses := rfl

/-! ### `withPending` -/

@[simp] theorem withPending_cfg (w : Word) (s : State) : (withPending w s).cfg = s.cfg := rfl
@[simp] theorem withPending_hist (w : Word) (s : State) : (withPending w s).hist = s.hist := rfl
@[simp] theorem withPending_damp (w : Word) (s : State) : (withPending w s).damp = s.damp := rfl
@[simp] theorem withPending_lastLag (w : Word) (s : State) : (withPending w s).lastLag = s.lastLag := rfl
@[simp] theorem withPending_lastGain (w : Word) (s : State) : (withPending w s).lastGain = s.lastGain := rfl
@[simp] theorem withPending_lag (w : Word) (s : State) : (withPending w s).lag = s.lag := rfl
@[simp] theorem withPending_gain (w : Word) (s : State) : (withPending w s).gain = s.gain := rfl
@[simp] theorem withPending_input (w : Word) (s : State) : (withPending w s).input = s.input := rfl
@[simp] theorem withPending_output (w : Word) (s : State) : (withPending w s).output = s.output := rfl
@[simp] theorem withPending_trial (w : Word) (s : State) : (withPending w s).trial = s.trial := rfl
@[simp] theorem withPending_cmd (w : Word) (s : State) : (withPending w s).cmd = w := rfl
@[simp] theorem withPending_status (w : Word) (s : State) : (withPending w s).status = statusAccepted s.status := rfl
@[simp] theorem withPending_faultCause (w : Word) (s : State) : (withPending w s).faultCause = s.faultCause := rfl
@[simp] theorem withPending_faultInfo (w : Word) (s : State) : (withPending w s).faultInfo = s.faultInfo := rfl
@[simp] theorem withPending_pending (w : Word) (s : State) : (withPending w s).pending = some w := rfl
@[simp] theorem withPending_work (w : Word) (s : State) : (withPending w s).work = s.work := rfl
@[simp] theorem withPending_record (w : Word) (s : State) : (withPending w s).record = s.record := rfl
@[simp] theorem withPending_draws (w : Word) (s : State) : (withPending w s).draws = s.draws := rfl
@[simp] theorem withPending_inputs (w : Word) (s : State) : (withPending w s).inputs = .block :: s.inputs := rfl
@[simp] theorem withPending_responses (w : Word) (s : State) : (withPending w s).responses = s.responses := rfl

/-! ### `applyReset` -/

@[simp] theorem applyReset_cfg (s : State) : (applyReset s).cfg = s.cfg := rfl
@[simp] theorem applyReset_hist (s : State) : (applyReset s).hist = List.replicate s.cfg.histLen F64.zero := rfl
@[simp] theorem applyReset_damp (s : State) : (applyReset s).damp = List.replicate dampTaps F64.zero := rfl
@[simp] theorem applyReset_lastLag (s : State) : (applyReset s).lastLag = s.cfg.resetLag := rfl
@[simp] theorem applyReset_lastGain (s : State) : (applyReset s).lastGain = s.cfg.resetGain := rfl
@[simp] theorem applyReset_lag (s : State) : (applyReset s).lag = List.replicate subframes Slot.unwritten := rfl
@[simp] theorem applyReset_gain (s : State) : (applyReset s).gain = List.replicate subframes Slot.unwritten := rfl
@[simp] theorem applyReset_input (s : State) :
    (applyReset s).input = List.replicate s.cfg.segLen Slot.unwritten := rfl
@[simp] theorem applyReset_output (s : State) :
    (applyReset s).output = List.replicate s.cfg.segLen Slot.unwritten := rfl
@[simp] theorem applyReset_trial (s : State) :
    (applyReset s).trial = List.replicate subframes (List.replicate s.cfg.segLen Slot.unwritten) := rfl
@[simp] theorem applyReset_cmd (s : State) : (applyReset s).cmd = 0 := rfl
@[simp] theorem applyReset_status (s : State) : (applyReset s).status = 0 := rfl
@[simp] theorem applyReset_faultCause (s : State) : (applyReset s).faultCause = 0 := rfl
@[simp] theorem applyReset_faultInfo (s : State) : (applyReset s).faultInfo = 0 := rfl
@[simp] theorem applyReset_pending (s : State) : (applyReset s).pending = none := rfl
@[simp] theorem applyReset_work (s : State) : (applyReset s).work = Work.idle s.cfg := rfl
@[simp] theorem applyReset_record (s : State) : (applyReset s).record = s.record := rfl
@[simp] theorem applyReset_draws (s : State) : (applyReset s).draws = s.draws := rfl
@[simp] theorem applyReset_inputs (s : State) : (applyReset s).inputs = s.inputs := rfl
@[simp] theorem applyReset_responses (s : State) : (applyReset s).responses = s.responses := rfl

/-! ### `noteOperands` -/

@[simp] theorem noteOperands_cfg (mode : Mode) (s : State) : (noteOperands mode s).cfg = s.cfg := rfl
@[simp] theorem noteOperands_hist (mode : Mode) (s : State) : (noteOperands mode s).hist = s.hist := rfl
@[simp] theorem noteOperands_damp (mode : Mode) (s : State) : (noteOperands mode s).damp = s.damp := rfl
@[simp] theorem noteOperands_lastLag (mode : Mode) (s : State) : (noteOperands mode s).lastLag = s.lastLag := rfl
@[simp] theorem noteOperands_lastGain (mode : Mode) (s : State) : (noteOperands mode s).lastGain = s.lastGain := rfl
@[simp] theorem noteOperands_lag (mode : Mode) (s : State) : (noteOperands mode s).lag = s.lag := rfl
@[simp] theorem noteOperands_gain (mode : Mode) (s : State) : (noteOperands mode s).gain = s.gain := rfl
@[simp] theorem noteOperands_input (mode : Mode) (s : State) : (noteOperands mode s).input = s.input := rfl
@[simp] theorem noteOperands_output (mode : Mode) (s : State) : (noteOperands mode s).output = s.output := rfl
@[simp] theorem noteOperands_trial (mode : Mode) (s : State) : (noteOperands mode s).trial = s.trial := rfl
@[simp] theorem noteOperands_cmd (mode : Mode) (s : State) : (noteOperands mode s).cmd = s.cmd := rfl
@[simp] theorem noteOperands_status (mode : Mode) (s : State) : (noteOperands mode s).status = s.status := rfl
@[simp] theorem noteOperands_faultCause (mode : Mode) (s : State) :
    (noteOperands mode s).faultCause = s.faultCause := rfl
@[simp] theorem noteOperands_faultInfo (mode : Mode) (s : State) :
    (noteOperands mode s).faultInfo = s.faultInfo := rfl
@[simp] theorem noteOperands_pending (mode : Mode) (s : State) : (noteOperands mode s).pending = s.pending := rfl
@[simp] theorem noteOperands_work (mode : Mode) (s : State) : (noteOperands mode s).work = s.work := rfl
@[simp] theorem noteOperands_record (mode : Mode) (s : State) :
    (noteOperands mode s).record = s.record ++
      ((operandRegs mode s.cfg).filter fun r => !marked s r).map fun _ => .unwrittenRead := rfl
@[simp] theorem noteOperands_draws (mode : Mode) (s : State) : (noteOperands mode s).draws = s.draws + 1 := rfl
@[simp] theorem noteOperands_inputs (mode : Mode) (s : State) : (noteOperands mode s).inputs = s.inputs := rfl
@[simp] theorem noteOperands_responses (mode : Mode) (s : State) :
    (noteOperands mode s).responses = s.responses := rfl

/-! ### `mainStep` -/

@[simp] theorem mainStep_cfg (o : Operands) (nan : Draws) (s : State) : (mainStep o nan s).cfg = s.cfg := rfl
@[simp] theorem mainStep_hist (o : Operands) (nan : Draws) (s : State) : (mainStep o nan s).hist = s.hist := rfl
@[simp] theorem mainStep_damp (o : Operands) (nan : Draws) (s : State) : (mainStep o nan s).damp = s.damp := rfl
@[simp] theorem mainStep_lastLag (o : Operands) (nan : Draws) (s : State) :
    (mainStep o nan s).lastLag = s.lastLag := rfl
@[simp] theorem mainStep_lastGain (o : Operands) (nan : Draws) (s : State) :
    (mainStep o nan s).lastGain = s.lastGain := rfl
@[simp] theorem mainStep_lag (o : Operands) (nan : Draws) (s : State) : (mainStep o nan s).lag = s.lag := rfl
@[simp] theorem mainStep_gain (o : Operands) (nan : Draws) (s : State) : (mainStep o nan s).gain = s.gain := rfl
@[simp] theorem mainStep_input (o : Operands) (nan : Draws) (s : State) : (mainStep o nan s).input = s.input := rfl
@[simp] theorem mainStep_output (o : Operands) (nan : Draws) (s : State) :
    (mainStep o nan s).output = s.output.set s.work.index ⟨outputSample o nan s, true⟩ := rfl
@[simp] theorem mainStep_trial (o : Operands) (nan : Draws) (s : State) : (mainStep o nan s).trial = s.trial := rfl
@[simp] theorem mainStep_cmd (o : Operands) (nan : Draws) (s : State) : (mainStep o nan s).cmd = s.cmd := rfl
@[simp] theorem mainStep_status (o : Operands) (nan : Draws) (s : State) : (mainStep o nan s).status = s.status := rfl
@[simp] theorem mainStep_faultCause (o : Operands) (nan : Draws) (s : State) :
    (mainStep o nan s).faultCause = s.faultCause := rfl
@[simp] theorem mainStep_faultInfo (o : Operands) (nan : Draws) (s : State) :
    (mainStep o nan s).faultInfo = s.faultInfo := rfl
@[simp] theorem mainStep_pending (o : Operands) (nan : Draws) (s : State) :
    (mainStep o nan s).pending = s.pending := rfl
@[simp] theorem mainStep_work (o : Operands) (nan : Draws) (s : State) :
    (mainStep o nan s).work = { s.work with
      wdamp := nextDamper nan s
      wbuf := s.work.wbuf.set (writePos s) (historySample o nan s)
      index := s.work.index + 1 } := rfl
@[simp] theorem mainStep_record (o : Operands) (nan : Draws) (s : State) : (mainStep o nan s).record = s.record := rfl
@[simp] theorem mainStep_draws (o : Operands) (nan : Draws) (s : State) : (mainStep o nan s).draws = s.draws := rfl
@[simp] theorem mainStep_inputs (o : Operands) (nan : Draws) (s : State) : (mainStep o nan s).inputs = s.inputs := rfl
@[simp] theorem mainStep_responses (o : Operands) (nan : Draws) (s : State) :
    (mainStep o nan s).responses = s.responses := rfl

/-! ### `update` -/

@[simp] theorem update_cfg (nan : Draws) (s : State) : (update nan s).cfg = s.cfg := by rw [update]
@[simp] theorem update_hist (nan : Draws) (s : State) : (update nan s).hist = s.hist := by rw [update]
@[simp] theorem update_damp (nan : Draws) (s : State) : (update nan s).damp = s.damp := by rw [update]
@[simp] theorem update_lastLag (nan : Draws) (s : State) : (update nan s).lastLag = s.lastLag := by rw [update]
@[simp] theorem update_lastGain (nan : Draws) (s : State) : (update nan s).lastGain = s.lastGain := by rw [update]
@[simp] theorem update_lag (nan : Draws) (s : State) : (update nan s).lag = s.lag := by rw [update]
@[simp] theorem update_gain (nan : Draws) (s : State) : (update nan s).gain = s.gain := by rw [update]
@[simp] theorem update_input (nan : Draws) (s : State) : (update nan s).input = s.input := by rw [update]
@[simp] theorem update_output (nan : Draws) (s : State) : (update nan s).output = s.output := by rw [update]
@[simp] theorem update_trial (nan : Draws) (s : State) : (update nan s).trial = s.trial := by rw [update]
@[simp] theorem update_cmd (nan : Draws) (s : State) : (update nan s).cmd = s.cmd := by rw [update]
@[simp] theorem update_status (nan : Draws) (s : State) : (update nan s).status = s.status := by rw [update]
@[simp] theorem update_faultCause (nan : Draws) (s : State) :
    (update nan s).faultCause = s.faultCause := by rw [update]
@[simp] theorem update_faultInfo (nan : Draws) (s : State) : (update nan s).faultInfo = s.faultInfo := by rw [update]
@[simp] theorem update_pending (nan : Draws) (s : State) : (update nan s).pending = s.pending := by rw [update]
@[simp] theorem update_record (nan : Draws) (s : State) : (update nan s).record = s.record := by rw [update]
@[simp] theorem update_draws (nan : Draws) (s : State) : (update nan s).draws = s.draws := by rw [update]
@[simp] theorem update_inputs (nan : Draws) (s : State) : (update nan s).inputs = s.inputs := by rw [update]
@[simp] theorem update_responses (nan : Draws) (s : State) : (update nan s).responses = s.responses := by rw [update]

/-! ### `importWork` -/

@[simp] theorem importWork_cfg (mode : Mode) (sd : Seed) (s : State) : (importWork mode sd s).cfg = s.cfg := rfl
@[simp] theorem importWork_hist (mode : Mode) (sd : Seed) (s : State) : (importWork mode sd s).hist = s.hist := rfl
@[simp] theorem importWork_damp (mode : Mode) (sd : Seed) (s : State) : (importWork mode sd s).damp = s.damp := rfl
@[simp] theorem importWork_lastLag (mode : Mode) (sd : Seed) (s : State) :
    (importWork mode sd s).lastLag = s.lastLag := rfl
@[simp] theorem importWork_lastGain (mode : Mode) (sd : Seed) (s : State) :
    (importWork mode sd s).lastGain = s.lastGain := rfl
@[simp] theorem importWork_lag (mode : Mode) (sd : Seed) (s : State) : (importWork mode sd s).lag = s.lag := rfl
@[simp] theorem importWork_gain (mode : Mode) (sd : Seed) (s : State) : (importWork mode sd s).gain = s.gain := rfl
@[simp] theorem importWork_input (mode : Mode) (sd : Seed) (s : State) : (importWork mode sd s).input = s.input := rfl
@[simp] theorem importWork_output (mode : Mode) (sd : Seed) (s : State) :
    (importWork mode sd s).output = s.output := rfl
@[simp] theorem importWork_trial (mode : Mode) (sd : Seed) (s : State) : (importWork mode sd s).trial = s.trial := rfl
@[simp] theorem importWork_cmd (mode : Mode) (sd : Seed) (s : State) : (importWork mode sd s).cmd = s.cmd := rfl
@[simp] theorem importWork_status (mode : Mode) (sd : Seed) (s : State) :
    (importWork mode sd s).status = s.status := rfl
@[simp] theorem importWork_faultCause (mode : Mode) (sd : Seed) (s : State) :
    (importWork mode sd s).faultCause = s.faultCause := rfl
@[simp] theorem importWork_faultInfo (mode : Mode) (sd : Seed) (s : State) :
    (importWork mode sd s).faultInfo = s.faultInfo := rfl
@[simp] theorem importWork_pending (mode : Mode) (sd : Seed) (s : State) :
    (importWork mode sd s).pending = s.pending := rfl
@[simp] theorem importWork_work (mode : Mode) (sd : Seed) (s : State) :
    (importWork mode sd s).work = { s.work with
      wbuf := s.hist ++ List.replicate (s.cfg.frameLen + s.cfg.lookahead) F64.zero
      wdamp := s.damp
      index := 0
      mode := mode
      g := sd.g
      oldLag := sd.oldLag
      oldGain := sd.oldGain
      fallback := sd.fallback
      phase := .subframes } := rfl
@[simp] theorem importWork_record (mode : Mode) (sd : Seed) (s : State) :
    (importWork mode sd s).record = s.record := rfl
@[simp] theorem importWork_draws (mode : Mode) (sd : Seed) (s : State) : (importWork mode sd s).draws = s.draws := rfl
@[simp] theorem importWork_inputs (mode : Mode) (sd : Seed) (s : State) :
    (importWork mode sd s).inputs = s.inputs := rfl
@[simp] theorem importWork_responses (mode : Mode) (sd : Seed) (s : State) :
    (importWork mode sd s).responses = s.responses := rfl

/-! ### `setupSubframe` -/

@[simp] theorem setupSubframe_cfg (o : Operands) (nan : Draws) (m : Nat) (s : State) :
    (setupSubframe o nan m s).cfg = s.cfg := rfl
@[simp] theorem setupSubframe_hist (o : Operands) (nan : Draws) (m : Nat) (s : State) :
    (setupSubframe o nan m s).hist = s.hist := rfl
@[simp] theorem setupSubframe_damp (o : Operands) (nan : Draws) (m : Nat) (s : State) :
    (setupSubframe o nan m s).damp = s.damp := rfl
@[simp] theorem setupSubframe_lastLag (o : Operands) (nan : Draws) (m : Nat) (s : State) :
    (setupSubframe o nan m s).lastLag = s.lastLag := rfl
@[simp] theorem setupSubframe_lastGain (o : Operands) (nan : Draws) (m : Nat) (s : State) :
    (setupSubframe o nan m s).lastGain = s.lastGain := rfl
@[simp] theorem setupSubframe_lag (o : Operands) (nan : Draws) (m : Nat) (s : State) :
    (setupSubframe o nan m s).lag = s.lag := rfl
@[simp] theorem setupSubframe_gain (o : Operands) (nan : Draws) (m : Nat) (s : State) :
    (setupSubframe o nan m s).gain = s.gain := rfl
@[simp] theorem setupSubframe_input (o : Operands) (nan : Draws) (m : Nat) (s : State) :
    (setupSubframe o nan m s).input = s.input := rfl
@[simp] theorem setupSubframe_output (o : Operands) (nan : Draws) (m : Nat) (s : State) :
    (setupSubframe o nan m s).output = s.output := rfl
@[simp] theorem setupSubframe_trial (o : Operands) (nan : Draws) (m : Nat) (s : State) :
    (setupSubframe o nan m s).trial = s.trial := rfl
@[simp] theorem setupSubframe_cmd (o : Operands) (nan : Draws) (m : Nat) (s : State) :
    (setupSubframe o nan m s).cmd = s.cmd := rfl
@[simp] theorem setupSubframe_status (o : Operands) (nan : Draws) (m : Nat) (s : State) :
    (setupSubframe o nan m s).status = s.status := rfl
@[simp] theorem setupSubframe_faultCause (o : Operands) (nan : Draws) (m : Nat) (s : State) :
    (setupSubframe o nan m s).faultCause = s.faultCause := rfl
@[simp] theorem setupSubframe_faultInfo (o : Operands) (nan : Draws) (m : Nat) (s : State) :
    (setupSubframe o nan m s).faultInfo = s.faultInfo := rfl
@[simp] theorem setupSubframe_pending (o : Operands) (nan : Draws) (m : Nat) (s : State) :
    (setupSubframe o nan m s).pending = s.pending := rfl
@[simp] theorem setupSubframe_work (o : Operands) (nan : Draws) (m : Nat) (s : State) :
    (setupSubframe o nan m s).work = { s.work with
      sub := m
      lagDelta := lagDeltaOf nan s.cfg m s.work.oldLag (o.lagAt m)
      wLag := s.work.oldLag
      gainDelta := gainDeltaOf nan s.cfg m s.work.oldGain (s.work.g.getD m F64.zero)
      wGain := s.work.oldGain
      oldLag := o.lagAt m
      oldGain := s.work.g.getD m F64.zero } := rfl
@[simp] theorem setupSubframe_record (o : Operands) (nan : Draws) (m : Nat) (s : State) :
    (setupSubframe o nan m s).record = s.record := rfl
@[simp] theorem setupSubframe_draws (o : Operands) (nan : Draws) (m : Nat) (s : State) :
    (setupSubframe o nan m s).draws = s.draws := rfl
@[simp] theorem setupSubframe_inputs (o : Operands) (nan : Draws) (m : Nat) (s : State) :
    (setupSubframe o nan m s).inputs = s.inputs := rfl
@[simp] theorem setupSubframe_responses (o : Operands) (nan : Draws) (m : Nat) (s : State) :
    (setupSubframe o nan m s).responses = s.responses := rfl

/-! ### `advanceRamp` -/

@[simp] theorem advanceRamp_cfg (nan : Draws) (n : Nat) (s : State) : (advanceRamp nan n s).cfg = s.cfg := rfl
@[simp] theorem advanceRamp_hist (nan : Draws) (n : Nat) (s : State) : (advanceRamp nan n s).hist = s.hist := rfl
@[simp] theorem advanceRamp_damp (nan : Draws) (n : Nat) (s : State) : (advanceRamp nan n s).damp = s.damp := rfl
@[simp] theorem advanceRamp_lastLag (nan : Draws) (n : Nat) (s : State) :
    (advanceRamp nan n s).lastLag = s.lastLag := rfl
@[simp] theorem advanceRamp_lastGain (nan : Draws) (n : Nat) (s : State) :
    (advanceRamp nan n s).lastGain = s.lastGain := rfl
@[simp] theorem advanceRamp_lag (nan : Draws) (n : Nat) (s : State) : (advanceRamp nan n s).lag = s.lag := rfl
@[simp] theorem advanceRamp_gain (nan : Draws) (n : Nat) (s : State) : (advanceRamp nan n s).gain = s.gain := rfl
@[simp] theorem advanceRamp_input (nan : Draws) (n : Nat) (s : State) : (advanceRamp nan n s).input = s.input := rfl
@[simp] theorem advanceRamp_output (nan : Draws) (n : Nat) (s : State) :
    (advanceRamp nan n s).output = s.output := rfl
@[simp] theorem advanceRamp_trial (nan : Draws) (n : Nat) (s : State) : (advanceRamp nan n s).trial = s.trial := rfl
@[simp] theorem advanceRamp_cmd (nan : Draws) (n : Nat) (s : State) : (advanceRamp nan n s).cmd = s.cmd := rfl
@[simp] theorem advanceRamp_status (nan : Draws) (n : Nat) (s : State) :
    (advanceRamp nan n s).status = s.status := rfl
@[simp] theorem advanceRamp_faultCause (nan : Draws) (n : Nat) (s : State) :
    (advanceRamp nan n s).faultCause = s.faultCause := rfl
@[simp] theorem advanceRamp_faultInfo (nan : Draws) (n : Nat) (s : State) :
    (advanceRamp nan n s).faultInfo = s.faultInfo := rfl
@[simp] theorem advanceRamp_pending (nan : Draws) (n : Nat) (s : State) :
    (advanceRamp nan n s).pending = s.pending := rfl
@[simp] theorem advanceRamp_work (nan : Draws) (n : Nat) (s : State) :
    (advanceRamp nan n s).work = { s.work with
      stepNo := n
      wGain := nextGain nan s.work.sub n s.work.wGain s.work.gainDelta
      wLag := nextLag nan s.work.sub n s.work.wLag s.work.lagDelta
      nsamp := s.cfg.samplesPerStep } := rfl
@[simp] theorem advanceRamp_record (nan : Draws) (n : Nat) (s : State) :
    (advanceRamp nan n s).record = s.record := rfl
@[simp] theorem advanceRamp_draws (nan : Draws) (n : Nat) (s : State) : (advanceRamp nan n s).draws = s.draws := rfl
@[simp] theorem advanceRamp_inputs (nan : Draws) (n : Nat) (s : State) :
    (advanceRamp nan n s).inputs = s.inputs := rfl
@[simp] theorem advanceRamp_responses (nan : Draws) (n : Nat) (s : State) :
    (advanceRamp nan n s).responses = s.responses := rfl

/-! ### `setupExport` -/

@[simp] theorem setupExport_cfg (s : State) : (setupExport s).cfg = s.cfg := rfl
@[simp] theorem setupExport_hist (s : State) : (setupExport s).hist = s.hist := rfl
@[simp] theorem setupExport_damp (s : State) : (setupExport s).damp = s.damp := rfl
@[simp] theorem setupExport_lastLag (s : State) : (setupExport s).lastLag = s.lastLag := rfl
@[simp] theorem setupExport_lastGain (s : State) : (setupExport s).lastGain = s.lastGain := rfl
@[simp] theorem setupExport_lag (s : State) : (setupExport s).lag = s.lag := rfl
@[simp] theorem setupExport_gain (s : State) : (setupExport s).gain = s.gain := rfl
@[simp] theorem setupExport_input (s : State) : (setupExport s).input = s.input := rfl
@[simp] theorem setupExport_output (s : State) : (setupExport s).output = s.output := rfl
@[simp] theorem setupExport_trial (s : State) : (setupExport s).trial = s.trial := rfl
@[simp] theorem setupExport_cmd (s : State) : (setupExport s).cmd = s.cmd := rfl
@[simp] theorem setupExport_status (s : State) : (setupExport s).status = s.status := rfl
@[simp] theorem setupExport_faultCause (s : State) : (setupExport s).faultCause = s.faultCause := rfl
@[simp] theorem setupExport_faultInfo (s : State) : (setupExport s).faultInfo = s.faultInfo := rfl
@[simp] theorem setupExport_pending (s : State) : (setupExport s).pending = s.pending := rfl
@[simp] theorem setupExport_work (s : State) : (setupExport s).work = { s.work with phase := .exporting } := rfl
@[simp] theorem setupExport_record (s : State) : (setupExport s).record = s.record := rfl
@[simp] theorem setupExport_draws (s : State) : (setupExport s).draws = s.draws := rfl
@[simp] theorem setupExport_inputs (s : State) : (setupExport s).inputs = s.inputs := rfl
@[simp] theorem setupExport_responses (s : State) : (setupExport s).responses = s.responses := rfl

/-! ### `storeFilterState` -/

@[simp] theorem storeFilterState_cfg (s : State) : (storeFilterState s).cfg = s.cfg := rfl
@[simp] theorem storeFilterState_hist (s : State) :
    (storeFilterState s).hist = (s.work.wbuf.drop s.cfg.frameLen).take s.cfg.histLen := rfl
@[simp] theorem storeFilterState_damp (s : State) : (storeFilterState s).damp = s.work.wdamp := rfl
@[simp] theorem storeFilterState_lastLag (s : State) : (storeFilterState s).lastLag = s.work.oldLag := rfl
@[simp] theorem storeFilterState_lastGain (s : State) : (storeFilterState s).lastGain = s.work.oldGain := rfl
@[simp] theorem storeFilterState_lag (s : State) : (storeFilterState s).lag = s.lag := rfl
@[simp] theorem storeFilterState_gain (s : State) : (storeFilterState s).gain = s.gain := rfl
@[simp] theorem storeFilterState_input (s : State) : (storeFilterState s).input = s.input := rfl
@[simp] theorem storeFilterState_output (s : State) : (storeFilterState s).output = s.output := rfl
@[simp] theorem storeFilterState_trial (s : State) : (storeFilterState s).trial = s.trial := rfl
@[simp] theorem storeFilterState_cmd (s : State) : (storeFilterState s).cmd = s.cmd := rfl
@[simp] theorem storeFilterState_status (s : State) : (storeFilterState s).status = s.status := rfl
@[simp] theorem storeFilterState_faultCause (s : State) : (storeFilterState s).faultCause = s.faultCause := rfl
@[simp] theorem storeFilterState_faultInfo (s : State) : (storeFilterState s).faultInfo = s.faultInfo := rfl
@[simp] theorem storeFilterState_pending (s : State) : (storeFilterState s).pending = s.pending := rfl
@[simp] theorem storeFilterState_work (s : State) : (storeFilterState s).work = s.work := rfl
@[simp] theorem storeFilterState_record (s : State) : (storeFilterState s).record = s.record := rfl
@[simp] theorem storeFilterState_draws (s : State) : (storeFilterState s).draws = s.draws := rfl
@[simp] theorem storeFilterState_inputs (s : State) : (storeFilterState s).inputs = s.inputs := rfl
@[simp] theorem storeFilterState_responses (s : State) : (storeFilterState s).responses = s.responses := rfl

/-! ### `setupLookahead` -/

@[simp] theorem setupLookahead_cfg (s : State) : (setupLookahead s).cfg = s.cfg := rfl
@[simp] theorem setupLookahead_hist (s : State) : (setupLookahead s).hist = s.hist := rfl
@[simp] theorem setupLookahead_damp (s : State) : (setupLookahead s).damp = s.damp := rfl
@[simp] theorem setupLookahead_lastLag (s : State) : (setupLookahead s).lastLag = s.lastLag := rfl
@[simp] theorem setupLookahead_lastGain (s : State) : (setupLookahead s).lastGain = s.lastGain := rfl
@[simp] theorem setupLookahead_lag (s : State) : (setupLookahead s).lag = s.lag := rfl
@[simp] theorem setupLookahead_gain (s : State) : (setupLookahead s).gain = s.gain := rfl
@[simp] theorem setupLookahead_input (s : State) : (setupLookahead s).input = s.input := rfl
@[simp] theorem setupLookahead_output (s : State) : (setupLookahead s).output = s.output := rfl
@[simp] theorem setupLookahead_trial (s : State) : (setupLookahead s).trial = s.trial := rfl
@[simp] theorem setupLookahead_cmd (s : State) : (setupLookahead s).cmd = s.cmd := rfl
@[simp] theorem setupLookahead_status (s : State) : (setupLookahead s).status = s.status := rfl
@[simp] theorem setupLookahead_faultCause (s : State) : (setupLookahead s).faultCause = s.faultCause := rfl
@[simp] theorem setupLookahead_faultInfo (s : State) : (setupLookahead s).faultInfo = s.faultInfo := rfl
@[simp] theorem setupLookahead_pending (s : State) : (setupLookahead s).pending = s.pending := rfl
@[simp] theorem setupLookahead_work (s : State) :
    (setupLookahead s).work =
      { s.work with sub := subframes - 1, nsamp := s.cfg.lookahead, phase := .lookahead } := rfl
@[simp] theorem setupLookahead_record (s : State) : (setupLookahead s).record = s.record := rfl
@[simp] theorem setupLookahead_draws (s : State) : (setupLookahead s).draws = s.draws := rfl
@[simp] theorem setupLookahead_inputs (s : State) : (setupLookahead s).inputs = s.inputs := rfl
@[simp] theorem setupLookahead_responses (s : State) : (setupLookahead s).responses = s.responses := rfl

/-! ### `idlePhase` -/

@[simp] theorem idlePhase_cfg (s : State) : (idlePhase s).cfg = s.cfg := rfl
@[simp] theorem idlePhase_hist (s : State) : (idlePhase s).hist = s.hist := rfl
@[simp] theorem idlePhase_damp (s : State) : (idlePhase s).damp = s.damp := rfl
@[simp] theorem idlePhase_lastLag (s : State) : (idlePhase s).lastLag = s.lastLag := rfl
@[simp] theorem idlePhase_lastGain (s : State) : (idlePhase s).lastGain = s.lastGain := rfl
@[simp] theorem idlePhase_lag (s : State) : (idlePhase s).lag = s.lag := rfl
@[simp] theorem idlePhase_gain (s : State) : (idlePhase s).gain = s.gain := rfl
@[simp] theorem idlePhase_input (s : State) : (idlePhase s).input = s.input := rfl
@[simp] theorem idlePhase_output (s : State) : (idlePhase s).output = s.output := rfl
@[simp] theorem idlePhase_trial (s : State) : (idlePhase s).trial = s.trial := rfl
@[simp] theorem idlePhase_cmd (s : State) : (idlePhase s).cmd = s.cmd := rfl
@[simp] theorem idlePhase_status (s : State) : (idlePhase s).status = s.status := rfl
@[simp] theorem idlePhase_faultCause (s : State) : (idlePhase s).faultCause = s.faultCause := rfl
@[simp] theorem idlePhase_faultInfo (s : State) : (idlePhase s).faultInfo = s.faultInfo := rfl
@[simp] theorem idlePhase_pending (s : State) : (idlePhase s).pending = s.pending := rfl
@[simp] theorem idlePhase_work (s : State) : (idlePhase s).work = { s.work with phase := .idle } := rfl
@[simp] theorem idlePhase_record (s : State) : (idlePhase s).record = s.record := rfl
@[simp] theorem idlePhase_draws (s : State) : (idlePhase s).draws = s.draws := rfl
@[simp] theorem idlePhase_inputs (s : State) : (idlePhase s).inputs = s.inputs := rfl
@[simp] theorem idlePhase_responses (s : State) : (idlePhase s).responses = s.responses := rfl

/-! ### the working state after `update` -/

@[simp] theorem update_work_wbuf (nan : Draws) (s : State) : (update nan s).work.wbuf = s.work.wbuf := by rw [update]
@[simp] theorem update_work_wdamp (nan : Draws) (s : State) : (update nan s).work.wdamp = s.work.wdamp := by rw [update]
@[simp] theorem update_work_wGain (nan : Draws) (s : State) : (update nan s).work.wGain = s.work.wGain := by rw [update]
@[simp] theorem update_work_wLag (nan : Draws) (s : State) : (update nan s).work.wLag = s.work.wLag := by rw [update]
@[simp] theorem update_work_sub (nan : Draws) (s : State) : (update nan s).work.sub = s.work.sub := by rw [update]
@[simp] theorem update_work_mode (nan : Draws) (s : State) : (update nan s).work.mode = s.work.mode := by rw [update]
@[simp] theorem update_work_nsamp (nan : Draws) (s : State) : (update nan s).work.nsamp = s.work.nsamp := by rw [update]
@[simp] theorem update_work_index (nan : Draws) (s : State) : (update nan s).work.index = s.work.index := by rw [update]
@[simp] theorem update_work_ddg (nan : Draws) (s : State) : (update nan s).work.ddg = s.work.ddg := by rw [update]
@[simp] theorem update_work_g (nan : Draws) (s : State) : (update nan s).work.g = s.work.g := by rw [update]
@[simp] theorem update_work_oldLag (nan : Draws) (s : State) : (update nan s).work.oldLag = s.work.oldLag := by rw [update]
@[simp] theorem update_work_oldGain (nan : Draws) (s : State) : (update nan s).work.oldGain = s.work.oldGain := by rw [update]
@[simp] theorem update_work_fallback (nan : Draws) (s : State) : (update nan s).work.fallback = s.work.fallback := by rw [update]
@[simp] theorem update_work_lagDelta (nan : Draws) (s : State) : (update nan s).work.lagDelta = s.work.lagDelta := by rw [update]
@[simp] theorem update_work_gainDelta (nan : Draws) (s : State) : (update nan s).work.gainDelta = s.work.gainDelta := by rw [update]
@[simp] theorem update_work_stepNo (nan : Draws) (s : State) : (update nan s).work.stepNo = s.work.stepNo := by rw [update]
@[simp] theorem update_work_phase (nan : Draws) (s : State) : (update nan s).work.phase = s.work.phase := by rw [update]

@[simp] theorem update_work_lagOffset (nan : Draws) (s : State) :
    (update nan s).work.lagOffset =
      (lagOffsetOf nan s.work.sub s.work.stepNo
        (delaySum nan s.cfg s.work.sub s.work.stepNo s.work.wLag)).getD 0 := by rw [update]

@[simp] theorem update_work_row (nan : Draws) (s : State) :
    (update nan s).work.row =
      (rowOf nan s.work.sub s.work.stepNo (delaySum nan s.cfg s.work.sub s.work.stepNo s.work.wLag)
        (update nan s).work.lagOffset).getD 0 := by rw [update]

@[simp] theorem update_work_gmult (nan : Draws) (s : State) :
    (update nan s).work.gmult =
      if s.work.mode = .preGain then
        nextMultipliers nan s.cfg s.work.sub s.work.stepNo s.work.gmult
      else s.work.gmult := by rw [update]

end Sys2Proof.Machine
end

