-- ==== Sys2Proof/Laws/Ops.lean ====
section
/-! SUPPORT. What each shared operation can do, said once: the loops, the bits of STATUS, reading and writing window
registers, host accesses. -/

namespace Sys2Proof.Machine

/-! ### loops -/

@[simp] theorem forLoop_zero {α : Type} (f : Nat → α → α) (start : Nat) (a : α) : forLoop f 0 start a = a := rfl

theorem forLoop_succ {α : Type} (f : Nat → α → α) (count start : Nat) (a : α) :
    forLoop f (count + 1) start a = forLoop f count (start + 1) (f start a) := rfl

/-- A loop of `j + k` turns is a loop of `j` turns and then one of `k`. -/
theorem forLoop_add {α : Type} (f : Nat → α → α) (j k start : Nat) (a : α) :
    forLoop f (j + k) start a = forLoop f k (start + j) (forLoop f j start a) := by
  induction j generalizing start a with
  | zero => simp
  | succ j ih =>
    rw [Nat.add_right_comm, forLoop_succ, forLoop_succ, ih, Nat.add_right_comm start 1 j, Nat.add_assoc start j 1]

/-- The last turn of a loop apart. -/
theorem forLoop_last {α : Type} (f : Nat → α → α) (count start : Nat) (a : α) :
    forLoop f (count + 1) start a = f (start + count) (forLoop f count start a) := by
  rw [forLoop_add f count 1]; rfl

/-- Where the turns do not look at their number, the start number is nothing. -/
theorem forLoop_start {α : Type} {f : α → α} (count start start' : Nat) (a : α) :
    forLoop (fun _ => f) count start a = forLoop (fun _ => f) count start' a := by
  induction count generalizing start start' a with
  | zero => rfl
  | succ n ih => exact ih _ _ _

/-- What every turn keeps, the loop keeps; the property may speak of the turn's number. -/
theorem forLoop_induct {α : Type} {f : Nat → α → α} {P : Nat → α → Prop} {count start : Nat} {a : α}
    (base : P start a) (turn : ∀ k b, start ≤ k → k < start + count → P k b → P (k + 1) (f k b)) :
    P (start + count) (forLoop f count start a) := by
  induction count with
  | zero => simpa using base
  | succ n ih =>
    rw [forLoop_last, ← Nat.add_assoc]
    exact turn _ _ (Nat.le_add_right _ _) (by omega) (ih fun k b h₁ h₂ => turn k b h₁ (by omega))

/-- What every turn keeps, the loop keeps. -/
theorem forLoop_keeps {α : Type} {f : Nat → α → α} {P : α → Prop} (count start : Nat) {a : α}
    (turn : ∀ k b, P b → P (f k b)) (base : P a) : P (forLoop f count start a) :=
  forLoop_induct (P := fun _ => P) base fun k b _ _ => turn k b

/-- A loop leaves alone what every turn leaves alone. -/
theorem forLoop_frame {α β : Type} {f : Nat → α → α} (view : α → β) (count start : Nat) (a : α)
    (turn : ∀ k b, view (f k b) = view b) : view (forLoop f count start a) = view a :=
  forLoop_keeps (P := fun b => view b = view a) count start (fun k b h => (turn k b).trans h) rfl

/-! ### the bits of STATUS -/

theorem getLsbD_putBit (w : Word) (i j : Nat) (b : Bool) (hj : j < 64) :
    (putBit w i b).getLsbD j = if j = i then b else w.getLsbD j := by
  have shifted : (1#64 <<< i).getLsbD j = decide (j = i) := by
    rw [BitVec.getLsbD_shiftLeft, BitVec.getLsbD_one]
    by_cases h : j = i
    · subst h; simp [hj]
    · by_cases hlt : j < i
      · simp [h, hlt]
      · have : j - i ≠ 0 := by omega
        simp [h, this]
  unfold putBit
  cases b
  · simp only [Bool.false_eq_true, ↓reduceIte, BitVec.getLsbD_and, BitVec.getLsbD_not, shifted, hj, decide_true,
      Bool.true_and]
    by_cases h : j = i <;> simp [h]
  · simp only [↓reduceIte, BitVec.getLsbD_or, shifted]
    by_cases h : j = i <;> simp [h]

/-- The three flags after acceptance (R200). -/
theorem statusAccepted_bits (w : Word) :
    (statusAccepted w).getLsbD busyBit = true ∧ (statusAccepted w).getLsbD doneBit = false ∧
    (statusAccepted w).getLsbD faultBit = w.getLsbD faultBit := by
  simp only [statusAccepted, getLsbD_putBit _ _ busyBit _ (by decide), getLsbD_putBit _ _ doneBit _ (by decide),
    getLsbD_putBit _ _ faultBit _ (by decide)]
  simp [busyBit, doneBit, faultBit]

/-- The three flags after completion (R200). -/
theorem statusCompleted_bits (w : Word) :
    (statusCompleted w).getLsbD busyBit = false ∧ (statusCompleted w).getLsbD doneBit = true ∧
    (statusCompleted w).getLsbD faultBit = w.getLsbD faultBit := by
  simp only [statusCompleted, getLsbD_putBit _ _ busyBit _ (by decide), getLsbD_putBit _ _ doneBit _ (by decide),
    getLsbD_putBit _ _ faultBit _ (by decide)]
  simp [busyBit, doneBit, faultBit]

/-- The three flags after a fault (R235). -/
theorem statusFaulted_bits (w : Word) :
    (statusFaulted w).getLsbD busyBit = false ∧ (statusFaulted w).getLsbD doneBit = false ∧
    (statusFaulted w).getLsbD faultBit = true := by
  simp only [statusFaulted, getLsbD_putBit _ _ busyBit _ (by decide), getLsbD_putBit _ _ doneBit _ (by decide),
    getLsbD_putBit _ _ faultBit _ (by decide)]
  simp [busyBit, doneBit, faultBit]

/-- The three flags after the fault is cleared (R207). -/
theorem statusCleared_bits (w : Word) :
    (statusCleared w).getLsbD busyBit = w.getLsbD busyBit ∧
    (statusCleared w).getLsbD doneBit = w.getLsbD doneBit ∧ (statusCleared w).getLsbD faultBit = false := by
  simp only [statusCleared, getLsbD_putBit _ _ busyBit _ (by decide), getLsbD_putBit _ _ doneBit _ (by decide),
    getLsbD_putBit _ _ faultBit _ (by decide)]
  simp [busyBit, doneBit, faultBit]

/-- The update of STATUS by bits leaves a word below 8 below 8: reserved bits stay 0. -/
theorem putBit_lt_eight {w : Word} {i : Nat} {b : Bool} (hw : w.toNat < 8) (hi : i < 3) :
    (putBit w i b).toNat < 8 := by
  have key : ∀ w : BitVec 3, ∀ i : Fin 3, ∀ b : Bool, (putBit (w.setWidth 64) i.val b).toNat < 8 := by decide
  have := key (w.setWidth 3) ⟨i, hi⟩ b
  have e : (w.setWidth 3).setWidth 64 = w := by
    apply BitVec.eq_of_toNat_eq
    simp only [BitVec.toNat_setWidth]
    omega
  rwa [e] at this

/-! ### window registers -/

/-- A stored register reads as the value stored, where the array has the entry (R76). -/
theorem peek_poke_self (s : State) (r : Reg) (v : Word) (mem : Memory.wf s) (inMap : r.inMap s.cfg = true)
    (rw' : r.readOnly = false) (notCmd : r ≠ .cmd) : peek (poke r v s) r = v := by
  obtain ⟨hh, hd, hl, hg, hi, -, -, -⟩ := mem
  cases r <;> simp_all [peek, poke, Reg.inMap, Reg.readOnly, List.getD]

/-- A store leaves every other register alone (R76). -/
theorem peek_poke_of_ne (s : State) (r q : Reg) (v : Word) (ne : q ≠ r) : peek (poke r v s) q = peek s q := by
  cases r <;> cases q <;>
    simp_all [peek, poke, List.getD, Ne.symm]

/-- A store marks no other register (R49). -/
theorem marked_poke_of_ne (s : State) (r q : Reg) (v : Word) (ne : q ≠ r) :
    marked (poke r v s) q = marked s q := by
  cases r <;> cases q <;> simp_all [marked, poke, List.getD, Ne.symm]

end Sys2Proof.Machine
end

