-- ==== Sys2Proof/Laws/HostAccess.lean ====
section
/-! SUPPORT. What a host access can do, said once for reads, writes, command writes and polls. -/

namespace Sys2Proof.Machine

/-- A read is a violation or answers the register's value. -/
theorem hostRead_cases (addr width : Nat) (s : State) :
    (∃ v, readViolation s addr width = some v ∧ hostRead addr width s = respondFree (violate v s)) ∨
    (∃ r, readViolation s addr width = none ∧ accessReg s.cfg addr width = some r ∧ marked s r = true ∧
      (s.busy = true → r.readableWhileBusy = true) ∧ hostRead addr width s = respond (peek s r) s) := by
  unfold hostRead
  cases hv : readViolation s addr width with
  | some v => exact .inl ⟨v, rfl, rfl⟩
  | none =>
    right
    unfold readViolation at hv
    cases hr : accessReg s.cfg addr width with
    | none => simp [hr] at hv
    | some r =>
      simp only [hr] at hv
      split at hv
      · cases hv
      · rename_i hb
        split at hv
        · rename_i hm
          exact ⟨r, rfl, rfl, hm, fun h => by simpa [h] using hb, rfl⟩
        · cases hv

/-- A write is a violation without effect, or stores to a writable register of an idle block. -/
theorem hostWrite_cases (addr width : Nat) (v : Word) (s : State) :
    (∃ w, writeViolation s addr width = some w ∧ hostWrite addr width v s = violate w s) ∨
    (∃ r, writeViolation s addr width = none ∧ accessReg s.cfg addr width = some r ∧ r.readOnly = false ∧
      s.busy = false ∧ hostWrite addr width v s = storeReg r v s) := by
  unfold hostWrite
  cases hv : writeViolation s addr width with
  | some w => exact .inl ⟨w, rfl, rfl⟩
  | none =>
    right
    unfold writeViolation at hv
    cases hr : accessReg s.cfg addr width with
    | none => simp [hr] at hv
    | some r =>
      simp only [hr] at hv
      split at hv
      · cases hv
      · rename_i ro
        split at hv
        · cases hv
        · rename_i hb
          exact ⟨r, rfl, rfl, by simpa using ro, by simpa using hb, rfl⟩

/-- A defined write to a register other than CMD is a `poke`. -/
theorem storeReg_of_ne {r : Reg} (ne : r ≠ .cmd) (v : Word) (s : State) : storeReg r v s = poke r v s := by
  cases r <;> simp_all [storeReg]

/-- A command write is ignored while a fault is recorded, unless it is `PF_CLRSTAT`; else it is accepted (R200). -/
theorem issueCommand_cases (v : Word) (s : State) :
    (s.faulted = true ∧ v ≠ encode .pfClrstat ∧ issueCommand v s = { s with cmd := v }) ∨
    ((s.faulted = true → v = encode .pfClrstat) ∧ issueCommand v s = accept v { s with cmd := v }) := by
  unfold issueCommand
  split
  · rename_i h; exact .inl ⟨h.1, h.2, rfl⟩
  · rename_i h
    refine .inr ⟨fun hf => ?_, rfl⟩
    by_contra hne
    exact h ⟨hf, hne⟩

/-- A poll reads STATUS; while busy the poll goes on, and the block has the turn when the polls are used up. -/
theorem hostWait_cases (polls : Nat) (s : State) :
    let t := hostRead (s.cfg.pfBase + offsetOf s.cfg .status) 8 s
    (s.busy = false ∧ hostWait polls s = t) ∨
    (s.busy = true ∧ polls = 0 ∧ hostWait polls s = { t with inputs := .block :: .wait 0 :: t.inputs }) ∨
    (∃ k, s.busy = true ∧ polls = k + 1 ∧ hostWait polls s = { t with inputs := .wait k :: t.inputs }) := by
  intro t
  unfold hostWait
  cases hb : s.busy with
  | false => exact .inl ⟨rfl, by simp [t]⟩
  | true =>
    cases polls with
    | zero => exact .inr (.inl ⟨rfl, rfl, by simp [t]⟩)
    | succ k => exact .inr (.inr ⟨k, rfl, rfl, by simp [t]⟩)

/-- A read leaves every register, and the pending command, alone (R78). -/
theorem hostRead_registers (addr width : Nat) (s : State) :
    (hostRead addr width s).cfg = s.cfg ∧ (hostRead addr width s).hist = s.hist ∧
    (hostRead addr width s).damp = s.damp ∧ (hostRead addr width s).lastLag = s.lastLag ∧
    (hostRead addr width s).lastGain = s.lastGain ∧ (hostRead addr width s).lag = s.lag ∧
    (hostRead addr width s).gain = s.gain ∧ (hostRead addr width s).input = s.input ∧
    (hostRead addr width s).output = s.output ∧ (hostRead addr width s).trial = s.trial ∧
    (hostRead addr width s).cmd = s.cmd ∧ (hostRead addr width s).status = s.status ∧
    (hostRead addr width s).faultCause = s.faultCause ∧ (hostRead addr width s).faultInfo = s.faultInfo ∧
    (hostRead addr width s).pending = s.pending ∧ (hostRead addr width s).work = s.work := by
  rcases hostRead_cases addr width s with ⟨v, -, h⟩ | ⟨r, -, -, -, -, h⟩ <;> rw [h] <;> simp

/-- A read takes no event. -/
theorem hostRead_inputs (addr width : Nat) (s : State) : (hostRead addr width s).inputs = s.inputs := by
  rcases hostRead_cases addr width s with ⟨v, -, h⟩ | ⟨r, -, -, -, -, h⟩ <;> rw [h] <;> simp

end Sys2Proof.Machine
end

