-- ==== Sys2Proof/Laws/Memory.lean ====
section
/-! SUPPORT. Every operation keeps the canonical form of the window's storage, `Memory.wf`; and the working buffer's
length through a frame. -/

namespace Sys2Proof.Machine

/-- The canonical form speaks of the configuration and of the storage only. -/
theorem memory_wf_congr {s t : State} (mem : Memory.wf s) (cfg : t.cfg = s.cfg) (hist : t.hist = s.hist)
    (damp : t.damp = s.damp) (lag : t.lag = s.lag) (gain : t.gain = s.gain) (input : t.input = s.input)
    (output : t.output = s.output) (trial : t.trial = s.trial) : Memory.wf t := by
  unfold Memory.wf; rw [cfg, hist, damp, lag, gain, input, output, trial]; exact mem

/-- The reset state of a configuration has the canonical form. -/
theorem memory_wf_initial (c : Config) : Memory.wf (State.initial c) := by
  refine ⟨?_, ?_, ?_, ?_, ?_, ?_, ?_, fun lane h => ?_⟩ <;>
    simp only [State.initial, List.length_replicate] at *
  rw [List.eq_of_mem_replicate h, List.length_replicate]

theorem memory_wf_reset : Memory.wf State.reset := memory_wf_initial _

theorem memory_wf_applyReset (s : State) : Memory.wf (applyReset s) :=
  memory_wf_congr (memory_wf_initial s.cfg) rfl rfl rfl rfl rfl rfl rfl rfl

variable {s : State}

theorem memory_wf_violate (mem : Memory.wf s) (v : Violation) : Memory.wf (violate v s) := mem
theorem memory_wf_respond (mem : Memory.wf s) (v : Word) : Memory.wf (respond v s) := mem
theorem memory_wf_respondFree (mem : Memory.wf s) : Memory.wf (respondFree s) := mem
theorem memory_wf_accept (mem : Memory.wf s) (v : Word) : Memory.wf (accept v s) := mem
theorem memory_wf_complete (mem : Memory.wf s) : Memory.wf (complete s) := mem
theorem memory_wf_takeFault (mem : Memory.wf s) (f : CommandFault) : Memory.wf (takeFault f s) := mem
theorem memory_wf_clearFault (mem : Memory.wf s) : Memory.wf (clearFault s) := mem
theorem memory_wf_withPending (mem : Memory.wf s) (w : Word) : Memory.wf (withPending w s) := mem
theorem memory_wf_noteOperands (mem : Memory.wf s) (mode : Mode) : Memory.wf (noteOperands mode s) := mem
theorem memory_wf_importWork (mem : Memory.wf s) (mode : Mode) (sd : Seed) : Memory.wf (importWork mode sd s) := mem
theorem memory_wf_setupExport (mem : Memory.wf s) : Memory.wf (setupExport s) := mem
theorem memory_wf_setupLookahead (mem : Memory.wf s) : Memory.wf (setupLookahead s) := mem
theorem memory_wf_idlePhase (mem : Memory.wf s) : Memory.wf (idlePhase s) := mem

theorem memory_wf_setupSubframe (mem : Memory.wf s) (o : Operands) (nan : Draws) (m : Nat) :
    Memory.wf (setupSubframe o nan m s) :=
  memory_wf_congr mem (by simp) (by simp) (by simp) (by simp) (by simp) (by simp) (by simp) (by simp)

theorem memory_wf_advanceRamp (mem : Memory.wf s) (nan : Draws) (n : Nat) : Memory.wf (advanceRamp nan n s) :=
  memory_wf_congr mem (by simp) (by simp) (by simp) (by simp) (by simp) (by simp) (by simp) (by simp)

theorem memory_wf_update (mem : Memory.wf s) (nan : Draws) : Memory.wf (update nan s) :=
  memory_wf_congr mem (by simp) (by simp) (by simp) (by simp) (by simp) (by simp) (by simp) (by simp)

theorem memory_wf_issueCommand (mem : Memory.wf s) (v : Word) : Memory.wf (issueCommand v s) := by
  rcases issueCommand_cases v s with ⟨-, -, h⟩ | ⟨-, h⟩ <;> rw [h] <;> exact mem

theorem memory_wf_initFilterState (mem : Memory.wf s) : Memory.wf (initFilterState s) := by
  obtain ⟨-, -, rest⟩ := mem
  exact ⟨by simp, by simp, rest⟩

theorem memory_wf_poke (mem : Memory.wf s) (r : Reg) (v : Word) : Memory.wf (poke r v s) := by
  obtain ⟨hh, hd, hl, hg, hi, ho, ht, hw⟩ := mem
  cases r <;> refine ⟨?_, ?_, ?_, ?_, ?_, ?_, ?_, ?_⟩ <;> simp only [poke, List.length_set] <;> assumption

theorem memory_wf_storeReg (mem : Memory.wf s) (r : Reg) (v : Word) : Memory.wf (storeReg r v s) := by
  by_cases h : r = .cmd
  · subst h; exact memory_wf_issueCommand mem v
  · rw [storeReg_of_ne h]; exact memory_wf_poke mem r v

theorem memory_wf_hostRead (mem : Memory.wf s) (addr width : Nat) : Memory.wf (hostRead addr width s) := by
  rcases hostRead_cases addr width s with ⟨v, -, h⟩ | ⟨r, -, -, -, -, h⟩ <;> rw [h] <;> exact mem

theorem memory_wf_hostWrite (mem : Memory.wf s) (addr width : Nat) (v : Word) :
    Memory.wf (hostWrite addr width v s) := by
  rcases hostWrite_cases addr width v s with ⟨w, -, h⟩ | ⟨r, -, -, -, -, h⟩ <;> rw [h]
  · exact mem
  · exact memory_wf_storeReg mem r v

theorem memory_wf_hostWait (mem : Memory.wf s) (polls : Nat) : Memory.wf (hostWait polls s) := by
  have read := memory_wf_hostRead mem (s.cfg.pfBase + offsetOf s.cfg .status) 8
  rcases hostWait_cases polls s with ⟨-, h⟩ | ⟨-, -, h⟩ | ⟨k, -, -, h⟩ <;> rw [h] <;> exact read

/-! ### the micro-operations -/

theorem memory_wf_trialStep (mem : Memory.wf s) (nan : Draws) : Memory.wf (trialStep nan s) := by
  unfold trialStep
  split
  · obtain ⟨hh, hd, hl, hg, hi, ho, ht, hw⟩ := mem
    refine ⟨hh, hd, hl, hg, hi, ho, by simp, fun lane hlane => ?_⟩
    obtain ⟨j, hj, rfl⟩ := List.mem_map.mp hlane
    have lt : j < s.trial.length := by rw [ht]; exact List.mem_range.mp hj
    have len : (s.trial.getD j []).length = s.cfg.segLen := by
      rw [List.getD_eq_getElem _ _ lt]; exact hw _ (List.getElem_mem lt)
    unfold nextTrialLane
    split <;> simpa only [List.length_set] using len
  · exact mem

theorem memory_wf_mainStep (mem : Memory.wf s) (o : Operands) (nan : Draws) : Memory.wf (mainStep o nan s) := by
  obtain ⟨hh, hd, hl, hg, hi, ho, ht, hw⟩ := mem
  refine ⟨hh, hd, hl, hg, hi, ?_, ht, hw⟩
  rw [mainStep_output, List.length_set]; exact ho

theorem memory_wf_sampleStep (mem : Memory.wf s) (o : Operands) (nan : Draws) : Memory.wf (sampleStep o nan s) :=
  memory_wf_mainStep (memory_wf_trialStep mem nan) o nan

theorem memory_wf_segment (mem : Memory.wf s) (o : Operands) (nan : Draws) (n : Nat) :
    Memory.wf (segment o nan n s) :=
  forLoop_keeps n 0 (fun _ _ h => memory_wf_sampleStep h o nan) mem

theorem memory_wf_initGainSearch (mem : Memory.wf s) : Memory.wf (initGainSearch s) := by
  unfold initGainSearch
  split
  · obtain ⟨hh, hd, hl, hg, hi, ho, ht, hw⟩ := mem
    refine ⟨hh, hd, hl, hg, hi, ho, by simp, fun lane hlane => ?_⟩
    rw [List.eq_of_mem_replicate hlane, List.length_replicate]
  · exact mem

theorem memory_wf_runStep (mem : Memory.wf s) (o : Operands) (nan : Draws) (n : Nat) :
    Memory.wf (runStep o nan n s) :=
  memory_wf_segment (memory_wf_update (memory_wf_advanceRamp mem nan n) nan) o nan _

theorem memory_wf_runSubframe (mem : Memory.wf s) (o : Operands) (nan : Draws) (m : Nat) :
    Memory.wf (runSubframe o nan m s) :=
  forLoop_keeps _ 0 (fun n _ h => memory_wf_runStep h o nan n) (memory_wf_setupSubframe mem o nan m)

theorem memory_wf_runSubframes (mem : Memory.wf s) (o : Operands) (nan : Draws) :
    Memory.wf (runSubframes o nan s) :=
  forLoop_keeps _ 0 (fun m _ h => memory_wf_runSubframe h o nan m) mem

theorem memory_wf_runLookahead (mem : Memory.wf s) (o : Operands) (nan : Draws) :
    Memory.wf (runLookahead o nan s) := by
  unfold runLookahead
  split
  · exact memory_wf_segment (memory_wf_setupLookahead mem) o nan _
  · exact mem

/-! ### the lengths of the working arrays -/

/-- The working buffer is as long as the configuration says, and the damper memory has its five entries. -/
def Work.sized (s : State) : Prop :=
  s.work.wbuf.length = s.cfg.wbufLen ∧ s.work.wdamp.length = dampTaps

theorem length_shiftDamper (d : List F64) : (shiftDamper d).length = d.length := by
  cases d <;> simp [shiftDamper]

theorem sized_trialStep (h : Work.sized s) (nan : Draws) : Work.sized (trialStep nan s) := by
  unfold trialStep; split <;> exact h

theorem sized_mainStep (h : Work.sized s) (o : Operands) (nan : Draws) : Work.sized (mainStep o nan s) := by
  refine ⟨?_, ?_⟩
  · rw [mainStep_work, mainStep_cfg, List.length_set]; exact h.1
  · rw [mainStep_work]
    show (nextDamper nan s).length = dampTaps
    rw [nextDamper, List.length_set, length_shiftDamper]; exact h.2

theorem sized_sampleStep (h : Work.sized s) (o : Operands) (nan : Draws) : Work.sized (sampleStep o nan s) :=
  sized_mainStep (sized_trialStep h nan) o nan

theorem sized_segment (h : Work.sized s) (o : Operands) (nan : Draws) (n : Nat) : Work.sized (segment o nan n s) :=
  forLoop_keeps n 0 (fun _ _ h => sized_sampleStep h o nan) h

theorem sized_runStep (h : Work.sized s) (o : Operands) (nan : Draws) (n : Nat) : Work.sized (runStep o nan n s) := by
  refine sized_segment ?_ o nan _
  unfold Work.sized at h ⊢
  simpa using h

theorem sized_runSubframe (h : Work.sized s) (o : Operands) (nan : Draws) (m : Nat) :
    Work.sized (runSubframe o nan m s) := by
  refine forLoop_keeps _ 0 (fun n _ h => sized_runStep h o nan n) ?_
  unfold Work.sized at h ⊢
  simpa using h

theorem sized_runSubframes (h : Work.sized s) (o : Operands) (nan : Draws) : Work.sized (runSubframes o nan s) :=
  forLoop_keeps _ 0 (fun m _ h => sized_runSubframe h o nan m) h

theorem sized_importWork (mem : Memory.wf s) (mode : Mode) (sd : Seed) : Work.sized (importWork mode sd s) := by
  refine ⟨?_, ?_⟩ <;> rw [importWork_work]
  · show (s.hist ++ _).length = s.cfg.wbufLen
    rw [List.length_append, List.length_replicate, mem.1, Config.wbufLen]; omega
  · exact mem.2.1

theorem sized_initGainSearch (h : Work.sized s) : Work.sized (initGainSearch s) := by
  unfold initGainSearch; split <;> exact h

/-- The export keeps the canonical form where the working arrays have their lengths (R181). -/
theorem memory_wf_exportFilterState (mem : Memory.wf s) (h : Work.sized s) : Memory.wf (exportFilterState s) := by
  unfold exportFilterState
  split
  · exact mem
  · obtain ⟨-, -, rest⟩ := mem
    refine ⟨?_, h.2, rest⟩
    rw [storeFilterState_hist, List.length_take, List.length_drop]
    have := h.1
    simp only [setupExport_cfg, setupExport_work, storeFilterState_cfg, Config.wbufLen] at this ⊢
    omega

/-- Phases 5 to 9 of a frame command keep the canonical form. -/
theorem memory_wf_runFrame (mem : Memory.wf s) (mode : Mode) (o : Operands) (nan : Draws) :
    Memory.wf (runFrame mode o nan s) := by
  have start := memory_wf_initGainSearch (memory_wf_importWork mem mode (seedOf nan mode o s))
  have size := sized_initGainSearch (sized_importWork mem mode (seedOf nan mode o s))
  exact memory_wf_idlePhase (memory_wf_runLookahead
    (memory_wf_exportFilterState (memory_wf_runSubframes start o nan) (sized_runSubframes size o nan)) o nan)

/-- A frame command keeps the canonical form. -/
theorem memory_wf_frameCommand (mem : Memory.wf s) (mode : Mode) : Memory.wf (frameCommand mode s) := by
  unfold frameCommand
  split
  · exact mem
  · exact memory_wf_complete (memory_wf_runFrame (memory_wf_noteOperands mem mode) mode _ _)

end Sys2Proof.Machine
end

