-- ==== Sys2Proof/Laws/Frame.lean ====
section
/-! SUPPORT. What the micro-operations leave alone (R120, R150, R170): one lemma per field, through the loops. -/

namespace Sys2Proof.Machine

/-! ### the trial path -/

@[simp] theorem trialStep_cfg (nan : Draws) (s : State) : (trialStep nan s).cfg = s.cfg := by
  unfold trialStep; split <;> rfl

@[simp] theorem trialStep_hist (nan : Draws) (s : State) : (trialStep nan s).hist = s.hist := by
  unfold trialStep; split <;> rfl

@[simp] theorem trialStep_damp (nan : Draws) (s : State) : (trialStep nan s).damp = s.damp := by
  unfold trialStep; split <;> rfl

@[simp] theorem trialStep_lastLag (nan : Draws) (s : State) : (trialStep nan s).lastLag = s.lastLag := by
  unfold trialStep; split <;> rfl

@[simp] theorem trialStep_lastGain (nan : Draws) (s : State) : (trialStep nan s).lastGain = s.lastGain := by
  unfold trialStep; split <;> rfl

@[simp] theorem trialStep_lag (nan : Draws) (s : State) : (trialStep nan s).lag = s.lag := by
  unfold trialStep; split <;> rfl

@[simp] theorem trialStep_gain (nan : Draws) (s : State) : (trialStep nan s).gain = s.gain := by
  unfold trialStep; split <;> rfl

@[simp] theorem trialStep_input (nan : Draws) (s : State) : (trialStep nan s).input = s.input := by
  unfold trialStep; split <;> rfl

@[simp] theorem trialStep_cmd (nan : Draws) (s : State) : (trialStep nan s).cmd = s.cmd := by
  unfold trialStep; split <;> rfl

@[simp] theorem trialStep_status (nan : Draws) (s : State) : (trialStep nan s).status = s.status := by
  unfold trialStep; split <;> rfl

@[simp] theorem trialStep_faultCause (nan : Draws) (s : State) : (trialStep nan s).faultCause = s.faultCause := by
  unfold trialStep; split <;> rfl

@[simp] theorem trialStep_faultInfo (nan : Draws) (s : State) : (trialStep nan s).faultInfo = s.faultInfo := by
  unfold trialStep; split <;> rfl

@[simp] theorem trialStep_pending (nan : Draws) (s : State) : (trialStep nan s).pending = s.pending := by
  unfold trialStep; split <;> rfl

@[simp] theorem trialStep_record (nan : Draws) (s : State) : (trialStep nan s).record = s.record := by
  unfold trialStep; split <;> rfl

@[simp] theorem trialStep_draws (nan : Draws) (s : State) : (trialStep nan s).draws = s.draws := by
  unfold trialStep; split <;> rfl

@[simp] theorem trialStep_inputs (nan : Draws) (s : State) : (trialStep nan s).inputs = s.inputs := by
  unfold trialStep; split <;> rfl

@[simp] theorem trialStep_responses (nan : Draws) (s : State) : (trialStep nan s).responses = s.responses := by
  unfold trialStep; split <;> rfl

@[simp] theorem trialStep_output (nan : Draws) (s : State) : (trialStep nan s).output = s.output := by
  unfold trialStep; split <;> rfl

@[simp] theorem trialStep_work_row (nan : Draws) (s : State) : (trialStep nan s).work.row = s.work.row := by
  unfold trialStep; split <;> rfl

@[simp] theorem trialStep_work_wGain (nan : Draws) (s : State) : (trialStep nan s).work.wGain = s.work.wGain := by
  unfold trialStep; split <;> rfl

@[simp] theorem trialStep_work_wLag (nan : Draws) (s : State) : (trialStep nan s).work.wLag = s.work.wLag := by
  unfold trialStep; split <;> rfl

@[simp] theorem trialStep_work_lagOffset (nan : Draws) (s : State) : (trialStep nan s).work.lagOffset = s.work.lagOffset := by
  unfold trialStep; split <;> rfl

@[simp] theorem trialStep_work_sub (nan : Draws) (s : State) : (trialStep nan s).work.sub = s.work.sub := by
  unfold trialStep; split <;> rfl

@[simp] theorem trialStep_work_mode (nan : Draws) (s : State) : (trialStep nan s).work.mode = s.work.mode := by
  unfold trialStep; split <;> rfl

@[simp] theorem trialStep_work_nsamp (nan : Draws) (s : State) : (trialStep nan s).work.nsamp = s.work.nsamp := by
  unfold trialStep; split <;> rfl

@[simp] theorem trialStep_work_gmult (nan : Draws) (s : State) : (trialStep nan s).work.gmult = s.work.gmult := by
  unfold trialStep; split <;> rfl

@[simp] theorem trialStep_work_g (nan : Draws) (s : State) : (trialStep nan s).work.g = s.work.g := by
  unfold trialStep; split <;> rfl

@[simp] theorem trialStep_work_oldLag (nan : Draws) (s : State) : (trialStep nan s).work.oldLag = s.work.oldLag := by
  unfold trialStep; split <;> rfl

@[simp] theorem trialStep_work_oldGain (nan : Draws) (s : State) : (trialStep nan s).work.oldGain = s.work.oldGain := by
  unfold trialStep; split <;> rfl

@[simp] theorem trialStep_work_fallback (nan : Draws) (s : State) : (trialStep nan s).work.fallback = s.work.fallback := by
  unfold trialStep; split <;> rfl

@[simp] theorem trialStep_work_lagDelta (nan : Draws) (s : State) : (trialStep nan s).work.lagDelta = s.work.lagDelta := by
  unfold trialStep; split <;> rfl

@[simp] theorem trialStep_work_gainDelta (nan : Draws) (s : State) : (trialStep nan s).work.gainDelta = s.work.gainDelta := by
  unfold trialStep; split <;> rfl

@[simp] theorem trialStep_work_stepNo (nan : Draws) (s : State) : (trialStep nan s).work.stepNo = s.work.stepNo := by
  unfold trialStep; split <;> rfl

@[simp] theorem trialStep_work_phase (nan : Draws) (s : State) : (trialStep nan s).work.phase = s.work.phase := by
  unfold trialStep; split <;> rfl

@[simp] theorem trialStep_work_wbuf (nan : Draws) (s : State) : (trialStep nan s).work.wbuf = s.work.wbuf := by
  unfold trialStep; split <;> rfl

@[simp] theorem trialStep_work_wdamp (nan : Draws) (s : State) : (trialStep nan s).work.wdamp = s.work.wdamp := by
  unfold trialStep; split <;> rfl

@[simp] theorem trialStep_work_index (nan : Draws) (s : State) : (trialStep nan s).work.index = s.work.index := by
  unfold trialStep; split <;> rfl

/-- Outside gain search the trial path does nothing (R132). -/
theorem trialStep_of_ne {nan : Draws} {s : State} (h : s.work.mode ≠ .preGain) : trialStep nan s = s := if_neg h

/-! ### the sample step and SEGMENT -/

@[simp] theorem sampleStep_cfg (o : Operands) (nan : Draws) (s : State) :
    (sampleStep o nan s).cfg = s.cfg := by simp [sampleStep]

@[simp] theorem sampleStep_hist (o : Operands) (nan : Draws) (s : State) :
    (sampleStep o nan s).hist = s.hist := by simp [sampleStep]

@[simp] theorem sampleStep_damp (o : Operands) (nan : Draws) (s : State) :
    (sampleStep o nan s).damp = s.damp := by simp [sampleStep]

@[simp] theorem sampleStep_lastLag (o : Operands) (nan : Draws) (s : State) :
    (sampleStep o nan s).lastLag = s.lastLag := by simp [sampleStep]

@[simp] theorem sampleStep_lastGain (o : Operands) (nan : Draws) (s : State) :
    (sampleStep o nan s).lastGain = s.lastGain := by simp [sampleStep]

@[simp] theorem sampleStep_lag (o : Operands) (nan : Draws) (s : State) :
    (sampleStep o nan s).lag = s.lag := by simp [sampleStep]

@[simp] theorem sampleStep_gain (o : Operands) (nan : Draws) (s : State) :
    (sampleStep o nan s).gain = s.gain := by simp [sampleStep]

@[simp] theorem sampleStep_input (o : Operands) (nan : Draws) (s : State) :
    (sampleStep o nan s).input = s.input := by simp [sampleStep]

@[simp] theorem sampleStep_cmd (o : Operands) (nan : Draws) (s : State) :
    (sampleStep o nan s).cmd = s.cmd := by simp [sampleStep]

@[simp] theorem sampleStep_status (o : Operands) (nan : Draws) (s : State) :
    (sampleStep o nan s).status = s.status := by simp [sampleStep]

@[simp] theorem sampleStep_faultCause (o : Operands) (nan : Draws) (s : State) :
    (sampleStep o nan s).faultCause = s.faultCause := by simp [sampleStep]

@[simp] theorem sampleStep_faultInfo (o : Operands) (nan : Draws) (s : State) :
    (sampleStep o nan s).faultInfo = s.faultInfo := by simp [sampleStep]

@[simp] theorem sampleStep_pending (o : Operands) (nan : Draws) (s : State) :
    (sampleStep o nan s).pending = s.pending := by simp [sampleStep]

@[simp] theorem sampleStep_record (o : Operands) (nan : Draws) (s : State) :
    (sampleStep o nan s).record = s.record := by simp [sampleStep]

@[simp] theorem sampleStep_draws (o : Operands) (nan : Draws) (s : State) :
    (sampleStep o nan s).draws = s.draws := by simp [sampleStep]

@[simp] theorem sampleStep_inputs (o : Operands) (nan : Draws) (s : State) :
    (sampleStep o nan s).inputs = s.inputs := by simp [sampleStep]

@[simp] theorem sampleStep_responses (o : Operands) (nan : Draws) (s : State) :
    (sampleStep o nan s).responses = s.responses := by simp [sampleStep]

@[simp] theorem sampleStep_work_row (o : Operands) (nan : Draws) (s : State) :
    (sampleStep o nan s).work.row = s.work.row := by simp [sampleStep]

@[simp] theorem sampleStep_work_wGain (o : Operands) (nan : Draws) (s : State) :
    (sampleStep o nan s).work.wGain = s.work.wGain := by simp [sampleStep]

@[simp] theorem sampleStep_work_wLag (o : Operands) (nan : Draws) (s : State) :
    (sampleStep o nan s).work.wLag = s.work.wLag := by simp [sampleStep]

@[simp] theorem sampleStep_work_lagOffset (o : Operands) (nan : Draws) (s : State) :
    (sampleStep o nan s).work.lagOffset = s.work.lagOffset := by simp [sampleStep]

@[simp] theorem sampleStep_work_sub (o : Operands) (nan : Draws) (s : State) :
    (sampleStep o nan s).work.sub = s.work.sub := by simp [sampleStep]

@[simp] theorem sampleStep_work_mode (o : Operands) (nan : Draws) (s : State) :
    (sampleStep o nan s).work.mode = s.work.mode := by simp [sampleStep]

@[simp] theorem sampleStep_work_nsamp (o : Operands) (nan : Draws) (s : State) :
    (sampleStep o nan s).work.nsamp = s.work.nsamp := by simp [sampleStep]

@[simp] theorem sampleStep_work_gmult (o : Operands) (nan : Draws) (s : State) :
    (sampleStep o nan s).work.gmult = s.work.gmult := by simp [sampleStep]

@[simp] theorem sampleStep_work_g (o : Operands) (nan : Draws) (s : State) :
    (sampleStep o nan s).work.g = s.work.g := by simp [sampleStep]

@[simp] theorem sampleStep_work_oldLag (o : Operands) (nan : Draws) (s : State) :
    (sampleStep o nan s).work.oldLag = s.work.oldLag := by simp [sampleStep]

@[simp] theorem sampleStep_work_oldGain (o : Operands) (nan : Draws) (s : State) :
    (sampleStep o nan s).work.oldGain = s.work.oldGain := by simp [sampleStep]

@[simp] theorem sampleStep_work_fallback (o : Operands) (nan : Draws) (s : State) :
    (sampleStep o nan s).work.fallback = s.work.fallback := by simp [sampleStep]

@[simp] theorem sampleStep_work_lagDelta (o : Operands) (nan : Draws) (s : State) :
    (sampleStep o nan s).work.lagDelta = s.work.lagDelta := by simp [sampleStep]

@[simp] theorem sampleStep_work_gainDelta (o : Operands) (nan : Draws) (s : State) :
    (sampleStep o nan s).work.gainDelta = s.work.gainDelta := by simp [sampleStep]

@[simp] theorem sampleStep_work_stepNo (o : Operands) (nan : Draws) (s : State) :
    (sampleStep o nan s).work.stepNo = s.work.stepNo := by simp [sampleStep]

@[simp] theorem sampleStep_work_phase (o : Operands) (nan : Draws) (s : State) :
    (sampleStep o nan s).work.phase = s.work.phase := by simp [sampleStep]

@[simp] theorem sampleStep_work_index (o : Operands) (nan : Draws) (s : State) :
    (sampleStep o nan s).work.index = s.work.index + 1 := by simp [sampleStep]

/-- The first sample step of a segment apart. -/
theorem segment_succ (o : Operands) (nan : Draws) (n : Nat) (s : State) :
    segment o nan (n + 1) s = segment o nan n (sampleStep o nan s) := by
  unfold segment
  rw [forLoop_succ]
  exact forLoop_start n _ _ _

/-- The last sample step of a segment apart. -/
theorem segment_last (o : Operands) (nan : Draws) (n : Nat) (s : State) :
    segment o nan (n + 1) s = sampleStep o nan (segment o nan n s) := forLoop_last _ _ _ _

@[simp] theorem segment_cfg (o : Operands) (nan : Draws) (n : Nat) (s : State) :
    (segment o nan n s).cfg = s.cfg := forLoop_frame (·.cfg) n 0 s fun _ b => sampleStep_cfg o nan b

@[simp] theorem segment_hist (o : Operands) (nan : Draws) (n : Nat) (s : State) :
    (segment o nan n s).hist = s.hist := forLoop_frame (·.hist) n 0 s fun _ b => sampleStep_hist o nan b

@[simp] theorem segment_damp (o : Operands) (nan : Draws) (n : Nat) (s : State) :
    (segment o nan n s).damp = s.damp := forLoop_frame (·.damp) n 0 s fun _ b => sampleStep_damp o nan b

@[simp] theorem segment_lastLag (o : Operands) (nan : Draws) (n : Nat) (s : State) :
    (segment o nan n s).lastLag = s.lastLag := forLoop_frame (·.lastLag) n 0 s fun _ b => sampleStep_lastLag o nan b

@[simp] theorem segment_lastGain (o : Operands) (nan : Draws) (n : Nat) (s : State) :
    (segment o nan n s).lastGain = s.lastGain := forLoop_frame (·.lastGain) n 0 s fun _ b => sampleStep_lastGain o nan b

@[simp] theorem segment_lag (o : Operands) (nan : Draws) (n : Nat) (s : State) :
    (segment o nan n s).lag = s.lag := forLoop_frame (·.lag) n 0 s fun _ b => sampleStep_lag o nan b

@[simp] theorem segment_gain (o : Operands) (nan : Draws) (n : Nat) (s : State) :
    (segment o nan n s).gain = s.gain := forLoop_frame (·.gain) n 0 s fun _ b => sampleStep_gain o nan b

@[simp] theorem segment_input (o : Operands) (nan : Draws) (n : Nat) (s : State) :
    (segment o nan n s).input = s.input := forLoop_frame (·.input) n 0 s fun _ b => sampleStep_input o nan b

@[simp] theorem segment_cmd (o : Operands) (nan : Draws) (n : Nat) (s : State) :
    (segment o nan n s).cmd = s.cmd := forLoop_frame (·.cmd) n 0 s fun _ b => sampleStep_cmd o nan b

@[simp] theorem segment_status (o : Operands) (nan : Draws) (n : Nat) (s : State) :
    (segment o nan n s).status = s.status := forLoop_frame (·.status) n 0 s fun _ b => sampleStep_status o nan b

@[simp] theorem segment_faultCause (o : Operands) (nan : Draws) (n : Nat) (s : State) :
    (segment o nan n s).faultCause = s.faultCause := forLoop_frame (·.faultCause) n 0 s fun _ b => sampleStep_faultCause o nan b

@[simp] theorem segment_faultInfo (o : Operands) (nan : Draws) (n : Nat) (s : State) :
    (segment o nan n s).faultInfo = s.faultInfo := forLoop_frame (·.faultInfo) n 0 s fun _ b => sampleStep_faultInfo o nan b

@[simp] theorem segment_pending (o : Operands) (nan : Draws) (n : Nat) (s : State) :
    (segment o nan n s).pending = s.pending := forLoop_frame (·.pending) n 0 s fun _ b => sampleStep_pending o nan b

@[simp] theorem segment_record (o : Operands) (nan : Draws) (n : Nat) (s : State) :
    (segment o nan n s).record = s.record := forLoop_frame (·.record) n 0 s fun _ b => sampleStep_record o nan b

@[simp] theorem segment_draws (o : Operands) (nan : Draws) (n : Nat) (s : State) :
    (segment o nan n s).draws = s.draws := forLoop_frame (·.draws) n 0 s fun _ b => sampleStep_draws o nan b

@[simp] theorem segment_inputs (o : Operands) (nan : Draws) (n : Nat) (s : State) :
    (segment o nan n s).inputs = s.inputs := forLoop_frame (·.inputs) n 0 s fun _ b => sampleStep_inputs o nan b

@[simp] theorem segment_responses (o : Operands) (nan : Draws) (n : Nat) (s : State) :
    (segment o nan n s).responses = s.responses := forLoop_frame (·.responses) n 0 s fun _ b => sampleStep_responses o nan b

@[simp] theorem segment_work_row (o : Operands) (nan : Draws) (n : Nat) (s : State) :
    (segment o nan n s).work.row = s.work.row :=
  forLoop_frame (·.work.row) n 0 s fun _ b => sampleStep_work_row o nan b

@[simp] theorem segment_work_wGain (o : Operands) (nan : Draws) (n : Nat) (s : State) :
    (segment o nan n s).work.wGain = s.work.wGain :=
  forLoop_frame (·.work.wGain) n 0 s fun _ b => sampleStep_work_wGain o nan b

@[simp] theorem segment_work_wLag (o : Operands) (nan : Draws) (n : Nat) (s : State) :
    (segment o nan n s).work.wLag = s.work.wLag :=
  forLoop_frame (·.work.wLag) n 0 s fun _ b => sampleStep_work_wLag o nan b

@[simp] theorem segment_work_lagOffset (o : Operands) (nan : Draws) (n : Nat) (s : State) :
    (segment o nan n s).work.lagOffset = s.work.lagOffset :=
  forLoop_frame (·.work.lagOffset) n 0 s fun _ b => sampleStep_work_lagOffset o nan b

@[simp] theorem segment_work_sub (o : Operands) (nan : Draws) (n : Nat) (s : State) :
    (segment o nan n s).work.sub = s.work.sub :=
  forLoop_frame (·.work.sub) n 0 s fun _ b => sampleStep_work_sub o nan b

@[simp] theorem segment_work_mode (o : Operands) (nan : Draws) (n : Nat) (s : State) :
    (segment o nan n s).work.mode = s.work.mode :=
  forLoop_frame (·.work.mode) n 0 s fun _ b => sampleStep_work_mode o nan b

@[simp] theorem segment_work_nsamp (o : Operands) (nan : Draws) (n : Nat) (s : State) :
    (segment o nan n s).work.nsamp = s.work.nsamp :=
  forLoop_frame (·.work.nsamp) n 0 s fun _ b => sampleStep_work_nsamp o nan b

@[simp] theorem segment_work_gmult (o : Operands) (nan : Draws) (n : Nat) (s : State) :
    (segment o nan n s).work.gmult = s.work.gmult :=
  forLoop_frame (·.work.gmult) n 0 s fun _ b => sampleStep_work_gmult o nan b

@[simp] theorem segment_work_g (o : Operands) (nan : Draws) (n : Nat) (s : State) :
    (segment o nan n s).work.g = s.work.g :=
  forLoop_frame (·.work.g) n 0 s fun _ b => sampleStep_work_g o nan b

@[simp] theorem segment_work_oldLag (o : Operands) (nan : Draws) (n : Nat) (s : State) :
    (segment o nan n s).work.oldLag = s.work.oldLag :=
  forLoop_frame (·.work.oldLag) n 0 s fun _ b => sampleStep_work_oldLag o nan b

@[simp] theorem segment_work_oldGain (o : Operands) (nan : Draws) (n : Nat) (s : State) :
    (segment o nan n s).work.oldGain = s.work.oldGain :=
  forLoop_frame (·.work.oldGain) n 0 s fun _ b => sampleStep_work_oldGain o nan b

@[simp] theorem segment_work_fallback (o : Operands) (nan : Draws) (n : Nat) (s : State) :
    (segment o nan n s).work.fallback = s.work.fallback :=
  forLoop_frame (·.work.fallback) n 0 s fun _ b => sampleStep_work_fallback o nan b

@[simp] theorem segment_work_lagDelta (o : Operands) (nan : Draws) (n : Nat) (s : State) :
    (segment o nan n s).work.lagDelta = s.work.lagDelta :=
  forLoop_frame (·.work.lagDelta) n 0 s fun _ b => sampleStep_work_lagDelta o nan b

@[simp] theorem segment_work_gainDelta (o : Operands) (nan : Draws) (n : Nat) (s : State) :
    (segment o nan n s).work.gainDelta = s.work.gainDelta :=
  forLoop_frame (·.work.gainDelta) n 0 s fun _ b => sampleStep_work_gainDelta o nan b

@[simp] theorem segment_work_stepNo (o : Operands) (nan : Draws) (n : Nat) (s : State) :
    (segment o nan n s).work.stepNo = s.work.stepNo :=
  forLoop_frame (·.work.stepNo) n 0 s fun _ b => sampleStep_work_stepNo o nan b

@[simp] theorem segment_work_phase (o : Operands) (nan : Draws) (n : Nat) (s : State) :
    (segment o nan n s).work.phase = s.work.phase :=
  forLoop_frame (·.work.phase) n 0 s fun _ b => sampleStep_work_phase o nan b

/-! ### steps, sub-frames, the loop -/

@[simp] theorem runStep_cfg (o : Operands) (nan : Draws) (n : Nat) (s : State) :
    (runStep o nan n s).cfg = s.cfg := by simp [runStep]

@[simp] theorem runStep_hist (o : Operands) (nan : Draws) (n : Nat) (s : State) :
    (runStep o nan n s).hist = s.hist := by simp [runStep]

@[simp] theorem runStep_damp (o : Operands) (nan : Draws) (n : Nat) (s : State) :
    (runStep o nan n s).damp = s.damp := by simp [runStep]

@[simp] theorem runStep_lastLag (o : Operands) (nan : Draws) (n : Nat) (s : State) :
    (runStep o nan n s).lastLag = s.lastLag := by simp [runStep]

@[simp] theorem runStep_lastGain (o : Operands) (nan : Draws) (n : Nat) (s : State) :
    (runStep o nan n s).lastGain = s.lastGain := by simp [runStep]

@[simp] theorem runStep_lag (o : Operands) (nan : Draws) (n : Nat) (s : State) :
    (runStep o nan n s).lag = s.lag := by simp [runStep]

@[simp] theorem runStep_gain (o : Operands) (nan : Draws) (n : Nat) (s : State) :
    (runStep o nan n s).gain = s.gain := by simp [runStep]

@[simp] theorem runStep_input (o : Operands) (nan : Draws) (n : Nat) (s : State) :
    (runStep o nan n s).input = s.input := by simp [runStep]

@[simp] theorem runStep_cmd (o : Operands) (nan : Draws) (n : Nat) (s : State) :
    (runStep o nan n s).cmd = s.cmd := by simp [runStep]

@[simp] theorem runStep_status (o : Operands) (nan : Draws) (n : Nat) (s : State) :
    (runStep o nan n s).status = s.status := by simp [runStep]

@[simp] theorem runStep_faultCause (o : Operands) (nan : Draws) (n : Nat) (s : State) :
    (runStep o nan n s).faultCause = s.faultCause := by simp [runStep]

@[simp] theorem runStep_faultInfo (o : Operands) (nan : Draws) (n : Nat) (s : State) :
    (runStep o nan n s).faultInfo = s.faultInfo := by simp [runStep]

@[simp] theorem runStep_pending (o : Operands) (nan : Draws) (n : Nat) (s : State) :
    (runStep o nan n s).pending = s.pending := by simp [runStep]

@[simp] theorem runStep_record (o : Operands) (nan : Draws) (n : Nat) (s : State) :
    (runStep o nan n s).record = s.record := by simp [runStep]

@[simp] theorem runStep_draws (o : Operands) (nan : Draws) (n : Nat) (s : State) :
    (runStep o nan n s).draws = s.draws := by simp [runStep]

@[simp] theorem runStep_inputs (o : Operands) (nan : Draws) (n : Nat) (s : State) :
    (runStep o nan n s).inputs = s.inputs := by simp [runStep]

@[simp] theorem runStep_responses (o : Operands) (nan : Draws) (n : Nat) (s : State) :
    (runStep o nan n s).responses = s.responses := by simp [runStep]

@[simp] theorem runStep_work_g (o : Operands) (nan : Draws) (n : Nat) (s : State) :
    (runStep o nan n s).work.g = s.work.g := by simp [runStep]

@[simp] theorem runStep_work_oldLag (o : Operands) (nan : Draws) (n : Nat) (s : State) :
    (runStep o nan n s).work.oldLag = s.work.oldLag := by simp [runStep]

@[simp] theorem runStep_work_oldGain (o : Operands) (nan : Draws) (n : Nat) (s : State) :
    (runStep o nan n s).work.oldGain = s.work.oldGain := by simp [runStep]

@[simp] theorem runStep_work_fallback (o : Operands) (nan : Draws) (n : Nat) (s : State) :
    (runStep o nan n s).work.fallback = s.work.fallback := by simp [runStep]

@[simp] theorem runStep_work_lagDelta (o : Operands) (nan : Draws) (n : Nat) (s : State) :
    (runStep o nan n s).work.lagDelta = s.work.lagDelta := by simp [runStep]

@[simp] theorem runStep_work_gainDelta (o : Operands) (nan : Draws) (n : Nat) (s : State) :
    (runStep o nan n s).work.gainDelta = s.work.gainDelta := by simp [runStep]

@[simp] theorem runStep_work_sub (o : Operands) (nan : Draws) (n : Nat) (s : State) :
    (runStep o nan n s).work.sub = s.work.sub := by simp [runStep]

@[simp] theorem runStep_work_mode (o : Operands) (nan : Draws) (n : Nat) (s : State) :
    (runStep o nan n s).work.mode = s.work.mode := by simp [runStep]

@[simp] theorem runStep_work_phase (o : Operands) (nan : Draws) (n : Nat) (s : State) :
    (runStep o nan n s).work.phase = s.work.phase := by simp [runStep]

@[simp] theorem runSubframe_cfg (o : Operands) (nan : Draws) (m : Nat) (s : State) :
    (runSubframe o nan m s).cfg = s.cfg :=
  (forLoop_frame (·.cfg) _ 0 _ fun n b => runStep_cfg o nan n b).trans (by simp)

@[simp] theorem runSubframe_hist (o : Operands) (nan : Draws) (m : Nat) (s : State) :
    (runSubframe o nan m s).hist = s.hist :=
  (forLoop_frame (·.hist) _ 0 _ fun n b => runStep_hist o nan n b).trans (by simp)

@[simp] theorem runSubframe_damp (o : Operands) (nan : Draws) (m : Nat) (s : State) :
    (runSubframe o nan m s).damp = s.damp :=
  (forLoop_frame (·.damp) _ 0 _ fun n b => runStep_damp o nan n b).trans (by simp)

@[simp] theorem runSubframe_lastLag (o : Operands) (nan : Draws) (m : Nat) (s : State) :
    (runSubframe o nan m s).lastLag = s.lastLag :=
  (forLoop_frame (·.lastLag) _ 0 _ fun n b => runStep_lastLag o nan n b).trans (by simp)

@[simp] theorem runSubframe_lastGain (o : Operands) (nan : Draws) (m : Nat) (s : State) :
    (runSubframe o nan m s).lastGain = s.lastGain :=
  (forLoop_frame (·.lastGain) _ 0 _ fun n b => runStep_lastGain o nan n b).trans (by simp)

@[simp] theorem runSubframe_lag (o : Operands) (nan : Draws) (m : Nat) (s : State) :
    (runSubframe o nan m s).lag = s.lag :=
  (forLoop_frame (·.lag) _ 0 _ fun n b => runStep_lag o nan n b).trans (by simp)

@[simp] theorem runSubframe_gain (o : Operands) (nan : Draws) (m : Nat) (s : State) :
    (runSubframe o nan m s).gain = s.gain :=
  (forLoop_frame (·.gain) _ 0 _ fun n b => runStep_gain o nan n b).trans (by simp)

@[simp] theorem runSubframe_input (o : Operands) (nan : Draws) (m : Nat) (s : State) :
    (runSubframe o nan m s).input = s.input :=
  (forLoop_frame (·.input) _ 0 _ fun n b => runStep_input o nan n b).trans (by simp)

@[simp] theorem runSubframe_cmd (o : Operands) (nan : Draws) (m : Nat) (s : State) :
    (runSubframe o nan m s).cmd = s.cmd :=
  (forLoop_frame (·.cmd) _ 0 _ fun n b => runStep_cmd o nan n b).trans (by simp)

@[simp] theorem runSubframe_status (o : Operands) (nan : Draws) (m : Nat) (s : State) :
    (runSubframe o nan m s).status = s.status :=
  (forLoop_frame (·.status) _ 0 _ fun n b => runStep_status o nan n b).trans (by simp)

@[simp] theorem runSubframe_faultCause (o : Operands) (nan : Draws) (m : Nat) (s : State) :
    (runSubframe o nan m s).faultCause = s.faultCause :=
  (forLoop_frame (·.faultCause) _ 0 _ fun n b => runStep_faultCause o nan n b).trans (by simp)

@[simp] theorem runSubframe_faultInfo (o : Operands) (nan : Draws) (m : Nat) (s : State) :
    (runSubframe o nan m s).faultInfo = s.faultInfo :=
  (forLoop_frame (·.faultInfo) _ 0 _ fun n b => runStep_faultInfo o nan n b).trans (by simp)

@[simp] theorem runSubframe_pending (o : Operands) (nan : Draws) (m : Nat) (s : State) :
    (runSubframe o nan m s).pending = s.pending :=
  (forLoop_frame (·.pending) _ 0 _ fun n b => runStep_pending o nan n b).trans (by simp)

@[simp] theorem runSubframe_record (o : Operands) (nan : Draws) (m : Nat) (s : State) :
    (runSubframe o nan m s).record = s.record :=
  (forLoop_frame (·.record) _ 0 _ fun n b => runStep_record o nan n b).trans (by simp)

@[simp] theorem runSubframe_draws (o : Operands) (nan : Draws) (m : Nat) (s : State) :
    (runSubframe o nan m s).draws = s.draws :=
  (forLoop_frame (·.draws) _ 0 _ fun n b => runStep_draws o nan n b).trans (by simp)

@[simp] theorem runSubframe_inputs (o : Operands) (nan : Draws) (m : Nat) (s : State) :
    (runSubframe o nan m s).inputs = s.inputs :=
  (forLoop_frame (·.inputs) _ 0 _ fun n b => runStep_inputs o nan n b).trans (by simp)

@[simp] theorem runSubframe_responses (o : Operands) (nan : Draws) (m : Nat) (s : State) :
    (runSubframe o nan m s).responses = s.responses :=
  (forLoop_frame (·.responses) _ 0 _ fun n b => runStep_responses o nan n b).trans (by simp)

@[simp] theorem runSubframe_work_g (o : Operands) (nan : Draws) (m : Nat) (s : State) :
    (runSubframe o nan m s).work.g = s.work.g :=
  (forLoop_frame (·.work.g) _ 0 _ fun n b => runStep_work_g o nan n b).trans (by simp)

@[simp] theorem runSubframe_work_fallback (o : Operands) (nan : Draws) (m : Nat) (s : State) :
    (runSubframe o nan m s).work.fallback = s.work.fallback :=
  (forLoop_frame (·.work.fallback) _ 0 _ fun n b => runStep_work_fallback o nan n b).trans (by simp)

@[simp] theorem runSubframe_work_mode (o : Operands) (nan : Draws) (m : Nat) (s : State) :
    (runSubframe o nan m s).work.mode = s.work.mode :=
  (forLoop_frame (·.work.mode) _ 0 _ fun n b => runStep_work_mode o nan n b).trans (by simp)

@[simp] theorem runSubframe_work_phase (o : Operands) (nan : Draws) (m : Nat) (s : State) :
    (runSubframe o nan m s).work.phase = s.work.phase :=
  (forLoop_frame (·.work.phase) _ 0 _ fun n b => runStep_work_phase o nan n b).trans (by simp)

@[simp] theorem runSubframes_cfg (o : Operands) (nan : Draws) (s : State) :
    (runSubframes o nan s).cfg = s.cfg :=
  forLoop_frame (·.cfg) _ 0 _ fun m b => runSubframe_cfg o nan m b

@[simp] theorem runSubframes_hist (o : Operands) (nan : Draws) (s : State) :
    (runSubframes o nan s).hist = s.hist :=
  forLoop_frame (·.hist) _ 0 _ fun m b => runSubframe_hist o nan m b

@[simp] theorem runSubframes_damp (o : Operands) (nan : Draws) (s : State) :
    (runSubframes o nan s).damp = s.damp :=
  forLoop_frame (·.damp) _ 0 _ fun m b => runSubframe_damp o nan m b

@[simp] theorem runSubframes_lastLag (o : Operands) (nan : Draws) (s : State) :
    (runSubframes o nan s).lastLag = s.lastLag :=
  forLoop_frame (·.lastLag) _ 0 _ fun m b => runSubframe_lastLag o nan m b

@[simp] theorem runSubframes_lastGain (o : Operands) (nan : Draws) (s : State) :
    (runSubframes o nan s).lastGain = s.lastGain :=
  forLoop_frame (·.lastGain) _ 0 _ fun m b => runSubframe_lastGain o nan m b

@[simp] theorem runSubframes_lag (o : Operands) (nan : Draws) (s : State) :
    (runSubframes o nan s).lag = s.lag :=
  forLoop_frame (·.lag) _ 0 _ fun m b => runSubframe_lag o nan m b

@[simp] theorem runSubframes_gain (o : Operands) (nan : Draws) (s : State) :
    (runSubframes o nan s).gain = s.gain :=
  forLoop_frame (·.gain) _ 0 _ fun m b => runSubframe_gain o nan m b

@[simp] theorem runSubframes_input (o : Operands) (nan : Draws) (s : State) :
    (runSubframes o nan s).input = s.input :=
  forLoop_frame (·.input) _ 0 _ fun m b => runSubframe_input o nan m b

@[simp] theorem runSubframes_cmd (o : Operands) (nan : Draws) (s : State) :
    (runSubframes o nan s).cmd = s.cmd :=
  forLoop_frame (·.cmd) _ 0 _ fun m b => runSubframe_cmd o nan m b

@[simp] theorem runSubframes_status (o : Operands) (nan : Draws) (s : State) :
    (runSubframes o nan s).status = s.status :=
  forLoop_frame (·.status) _ 0 _ fun m b => runSubframe_status o nan m b

@[simp] theorem runSubframes_faultCause (o : Operands) (nan : Draws) (s : State) :
    (runSubframes o nan s).faultCause = s.faultCause :=
  forLoop_frame (·.faultCause) _ 0 _ fun m b => runSubframe_faultCause o nan m b

@[simp] theorem runSubframes_faultInfo (o : Operands) (nan : Draws) (s : State) :
    (runSubframes o nan s).faultInfo = s.faultInfo :=
  forLoop_frame (·.faultInfo) _ 0 _ fun m b => runSubframe_faultInfo o nan m b

@[simp] theorem runSubframes_pending (o : Operands) (nan : Draws) (s : State) :
    (runSubframes o nan s).pending = s.pending :=
  forLoop_frame (·.pending) _ 0 _ fun m b => runSubframe_pending o nan m b

@[simp] theorem runSubframes_record (o : Operands) (nan : Draws) (s : State) :
    (runSubframes o nan s).record = s.record :=
  forLoop_frame (·.record) _ 0 _ fun m b => runSubframe_record o nan m b

@[simp] theorem runSubframes_draws (o : Operands) (nan : Draws) (s : State) :
    (runSubframes o nan s).draws = s.draws :=
  forLoop_frame (·.draws) _ 0 _ fun m b => runSubframe_draws o nan m b

@[simp] theorem runSubframes_inputs (o : Operands) (nan : Draws) (s : State) :
    (runSubframes o nan s).inputs = s.inputs :=
  forLoop_frame (·.inputs) _ 0 _ fun m b => runSubframe_inputs o nan m b

@[simp] theorem runSubframes_responses (o : Operands) (nan : Draws) (s : State) :
    (runSubframes o nan s).responses = s.responses :=
  forLoop_frame (·.responses) _ 0 _ fun m b => runSubframe_responses o nan m b

@[simp] theorem runSubframes_work_g (o : Operands) (nan : Draws) (s : State) :
    (runSubframes o nan s).work.g = s.work.g :=
  forLoop_frame (·.work.g) _ 0 _ fun m b => runSubframe_work_g o nan m b

@[simp] theorem runSubframes_work_fallback (o : Operands) (nan : Draws) (s : State) :
    (runSubframes o nan s).work.fallback = s.work.fallback :=
  forLoop_frame (·.work.fallback) _ 0 _ fun m b => runSubframe_work_fallback o nan m b

@[simp] theorem runSubframes_work_mode (o : Operands) (nan : Draws) (s : State) :
    (runSubframes o nan s).work.mode = s.work.mode :=
  forLoop_frame (·.work.mode) _ 0 _ fun m b => runSubframe_work_mode o nan m b

@[simp] theorem runSubframes_work_phase (o : Operands) (nan : Draws) (s : State) :
    (runSubframes o nan s).work.phase = s.work.phase :=
  forLoop_frame (·.work.phase) _ 0 _ fun m b => runSubframe_work_phase o nan m b

/-! ### gain-search initialisation, export, lookahead -/

@[simp] theorem initGainSearch_cfg (s : State) : (initGainSearch s).cfg = s.cfg := by
  unfold initGainSearch; split <;> rfl

@[simp] theorem initGainSearch_hist (s : State) : (initGainSearch s).hist = s.hist := by
  unfold initGainSearch; split <;> rfl

@[simp] theorem initGainSearch_damp (s : State) : (initGainSearch s).damp = s.damp := by
  unfold initGainSearch; split <;> rfl

@[simp] theorem initGainSearch_lastLag (s : State) : (initGainSearch s).lastLag = s.lastLag := by
  unfold initGainSearch; split <;> rfl

@[simp] theorem initGainSearch_lastGain (s : State) : (initGainSearch s).lastGain = s.lastGain := by
  unfold initGainSearch; split <;> rfl

@[simp] theorem initGainSearch_lag (s : State) : (initGainSearch s).lag = s.lag := by
  unfold initGainSearch; split <;> rfl

@[simp] theorem initGainSearch_gain (s : State) : (initGainSearch s).gain = s.gain := by
  unfold initGainSearch; split <;> rfl

@[simp] theorem initGainSearch_input (s : State) : (initGainSearch s).input = s.input := by
  unfold initGainSearch; split <;> rfl

@[simp] theorem initGainSearch_cmd (s : State) : (initGainSearch s).cmd = s.cmd := by
  unfold initGainSearch; split <;> rfl

@[simp] theorem initGainSearch_status (s : State) : (initGainSearch s).status = s.status := by
  unfold initGainSearch; split <;> rfl

@[simp] theorem initGainSearch_faultCause (s : State) : (initGainSearch s).faultCause = s.faultCause := by
  unfold initGainSearch; split <;> rfl

@[simp] theorem initGainSearch_faultInfo (s : State) : (initGainSearch s).faultInfo = s.faultInfo := by
  unfold initGainSearch; split <;> rfl

@[simp] theorem initGainSearch_pending (s : State) : (initGainSearch s).pending = s.pending := by
  unfold initGainSearch; split <;> rfl

@[simp] theorem initGainSearch_record (s : State) : (initGainSearch s).record = s.record := by
  unfold initGainSearch; split <;> rfl

@[simp] theorem initGainSearch_draws (s : State) : (initGainSearch s).draws = s.draws := by
  unfold initGainSearch; split <;> rfl

@[simp] theorem initGainSearch_inputs (s : State) : (initGainSearch s).inputs = s.inputs := by
  unfold initGainSearch; split <;> rfl

@[simp] theorem initGainSearch_responses (s : State) : (initGainSearch s).responses = s.responses := by
  unfold initGainSearch; split <;> rfl

@[simp] theorem initGainSearch_output (s : State) : (initGainSearch s).output = s.output := by
  unfold initGainSearch; split <;> rfl

@[simp] theorem initGainSearch_work_row (s : State) : (initGainSearch s).work.row = s.work.row := by
  unfold initGainSearch; split <;> rfl

@[simp] theorem initGainSearch_work_wGain (s : State) : (initGainSearch s).work.wGain = s.work.wGain := by
  unfold initGainSearch; split <;> rfl

@[simp] theorem initGainSearch_work_wLag (s : State) : (initGainSearch s).work.wLag = s.work.wLag := by
  unfold initGainSearch; split <;> rfl

@[simp] theorem initGainSearch_work_lagOffset (s : State) : (initGainSearch s).work.lagOffset = s.work.lagOffset := by
  unfold initGainSearch; split <;> rfl

@[simp] theorem initGainSearch_work_sub (s : State) : (initGainSearch s).work.sub = s.work.sub := by
  unfold initGainSearch; split <;> rfl

@[simp] theorem initGainSearch_work_mode (s : State) : (initGainSearch s).work.mode = s.work.mode := by
  unfold initGainSearch; split <;> rfl

@[simp] theorem initGainSearch_work_nsamp (s : State) : (initGainSearch s).work.nsamp = s.work.nsamp := by
  unfold initGainSearch; split <;> rfl

@[simp] theorem initGainSearch_work_g (s : State) : (initGainSearch s).work.g = s.work.g := by
  unfold initGainSearch; split <;> rfl

@[simp] theorem initGainSearch_work_oldLag (s : State) : (initGainSearch s).work.oldLag = s.work.oldLag := by
  unfold initGainSearch; split <;> rfl

@[simp] theorem initGainSearch_work_oldGain (s : State) : (initGainSearch s).work.oldGain = s.work.oldGain := by
  unfold initGainSearch; split <;> rfl

@[simp] theorem initGainSearch_work_fallback (s : State) : (initGainSearch s).work.fallback = s.work.fallback := by
  unfold initGainSearch; split <;> rfl

@[simp] theorem initGainSearch_work_lagDelta (s : State) : (initGainSearch s).work.lagDelta = s.work.lagDelta := by
  unfold initGainSearch; split <;> rfl

@[simp] theorem initGainSearch_work_gainDelta (s : State) : (initGainSearch s).work.gainDelta = s.work.gainDelta := by
  unfold initGainSearch; split <;> rfl

@[simp] theorem initGainSearch_work_stepNo (s : State) : (initGainSearch s).work.stepNo = s.work.stepNo := by
  unfold initGainSearch; split <;> rfl

@[simp] theorem initGainSearch_work_phase (s : State) : (initGainSearch s).work.phase = s.work.phase := by
  unfold initGainSearch; split <;> rfl

@[simp] theorem initGainSearch_work_wbuf (s : State) : (initGainSearch s).work.wbuf = s.work.wbuf := by
  unfold initGainSearch; split <;> rfl

@[simp] theorem initGainSearch_work_wdamp (s : State) : (initGainSearch s).work.wdamp = s.work.wdamp := by
  unfold initGainSearch; split <;> rfl

@[simp] theorem initGainSearch_work_index (s : State) : (initGainSearch s).work.index = s.work.index := by
  unfold initGainSearch; split <;> rfl

@[simp] theorem exportFilterState_cfg (s : State) : (exportFilterState s).cfg = s.cfg := by
  unfold exportFilterState; split <;> rfl

@[simp] theorem exportFilterState_lag (s : State) : (exportFilterState s).lag = s.lag := by
  unfold exportFilterState; split <;> rfl

@[simp] theorem exportFilterState_gain (s : State) : (exportFilterState s).gain = s.gain := by
  unfold exportFilterState; split <;> rfl

@[simp] theorem exportFilterState_input (s : State) : (exportFilterState s).input = s.input := by
  unfold exportFilterState; split <;> rfl

@[simp] theorem exportFilterState_cmd (s : State) : (exportFilterState s).cmd = s.cmd := by
  unfold exportFilterState; split <;> rfl

@[simp] theorem exportFilterState_status (s : State) : (exportFilterState s).status = s.status := by
  unfold exportFilterState; split <;> rfl

@[simp] theorem exportFilterState_faultCause (s : State) : (exportFilterState s).faultCause = s.faultCause := by
  unfold exportFilterState; split <;> rfl

@[simp] theorem exportFilterState_faultInfo (s : State) : (exportFilterState s).faultInfo = s.faultInfo := by
  unfold exportFilterState; split <;> rfl

@[simp] theorem exportFilterState_pending (s : State) : (exportFilterState s).pending = s.pending := by
  unfold exportFilterState; split <;> rfl

@[simp] theorem exportFilterState_record (s : State) : (exportFilterState s).record = s.record := by
  unfold exportFilterState; split <;> rfl

@[simp] theorem exportFilterState_draws (s : State) : (exportFilterState s).draws = s.draws := by
  unfold exportFilterState; split <;> rfl

@[simp] theorem exportFilterState_inputs (s : State) : (exportFilterState s).inputs = s.inputs := by
  unfold exportFilterState; split <;> rfl

@[simp] theorem exportFilterState_responses (s : State) : (exportFilterState s).responses = s.responses := by
  unfold exportFilterState; split <;> rfl

@[simp] theorem exportFilterState_output (s : State) : (exportFilterState s).output = s.output := by
  unfold exportFilterState; split <;> rfl

@[simp] theorem exportFilterState_trial (s : State) : (exportFilterState s).trial = s.trial := by
  unfold exportFilterState; split <;> rfl

@[simp] theorem exportFilterState_work (s : State) :
    (exportFilterState s).work = { s.work with phase := .exporting } := by
  unfold exportFilterState; split <;> rfl

@[simp] theorem runLookahead_cfg (o : Operands) (nan : Draws) (s : State) :
    (runLookahead o nan s).cfg = s.cfg := by unfold runLookahead; split <;> simp

@[simp] theorem runLookahead_hist (o : Operands) (nan : Draws) (s : State) :
    (runLookahead o nan s).hist = s.hist := by unfold runLookahead; split <;> simp

@[simp] theorem runLookahead_damp (o : Operands) (nan : Draws) (s : State) :
    (runLookahead o nan s).damp = s.damp := by unfold runLookahead; split <;> simp

@[simp] theorem runLookahead_lastLag (o : Operands) (nan : Draws) (s : State) :
    (runLookahead o nan s).lastLag = s.lastLag := by unfold runLookahead; split <;> simp

@[simp] theorem runLookahead_lastGain (o : Operands) (nan : Draws) (s : State) :
    (runLookahead o nan s).lastGain = s.lastGain := by unfold runLookahead; split <;> simp

@[simp] theorem runLookahead_lag (o : Operands) (nan : Draws) (s : State) :
    (runLookahead o nan s).lag = s.lag := by unfold runLookahead; split <;> simp

@[simp] theorem runLookahead_gain (o : Operands) (nan : Draws) (s : State) :
    (runLookahead o nan s).gain = s.gain := by unfold runLookahead; split <;> simp

@[simp] theorem runLookahead_input (o : Operands) (nan : Draws) (s : State) :
    (runLookahead o nan s).input = s.input := by unfold runLookahead; split <;> simp

@[simp] theorem runLookahead_cmd (o : Operands) (nan : Draws) (s : State) :
    (runLookahead o nan s).cmd = s.cmd := by unfold runLookahead; split <;> simp

@[simp] theorem runLookahead_status (o : Operands) (nan : Draws) (s : State) :
    (runLookahead o nan s).status = s.status := by unfold runLookahead; split <;> simp

@[simp] theorem runLookahead_faultCause (o : Operands) (nan : Draws) (s : State) :
    (runLookahead o nan s).faultCause = s.faultCause := by unfold runLookahead; split <;> simp

@[simp] theorem runLookahead_faultInfo (o : Operands) (nan : Draws) (s : State) :
    (runLookahead o nan s).faultInfo = s.faultInfo := by unfold runLookahead; split <;> simp

@[simp] theorem runLookahead_pending (o : Operands) (nan : Draws) (s : State) :
    (runLookahead o nan s).pending = s.pending := by unfold runLookahead; split <;> simp

@[simp] theorem runLookahead_record (o : Operands) (nan : Draws) (s : State) :
    (runLookahead o nan s).record = s.record := by unfold runLookahead; split <;> simp

@[simp] theorem runLookahead_draws (o : Operands) (nan : Draws) (s : State) :
    (runLookahead o nan s).draws = s.draws := by unfold runLookahead; split <;> simp

@[simp] theorem runLookahead_inputs (o : Operands) (nan : Draws) (s : State) :
    (runLookahead o nan s).inputs = s.inputs := by unfold runLookahead; split <;> simp

@[simp] theorem runLookahead_responses (o : Operands) (nan : Draws) (s : State) :
    (runLookahead o nan s).responses = s.responses := by unfold runLookahead; split <;> simp

/-! ### phases 5 to 9 -/

@[simp] theorem runFrame_cfg (mode : Mode) (o : Operands) (nan : Draws) (s : State) :
    (runFrame mode o nan s).cfg = s.cfg := by simp [runFrame]

@[simp] theorem runFrame_lag (mode : Mode) (o : Operands) (nan : Draws) (s : State) :
    (runFrame mode o nan s).lag = s.lag := by simp [runFrame]

@[simp] theorem runFrame_gain (mode : Mode) (o : Operands) (nan : Draws) (s : State) :
    (runFrame mode o nan s).gain = s.gain := by simp [runFrame]

@[simp] theorem runFrame_input (mode : Mode) (o : Operands) (nan : Draws) (s : State) :
    (runFrame mode o nan s).input = s.input := by simp [runFrame]

@[simp] theorem runFrame_cmd (mode : Mode) (o : Operands) (nan : Draws) (s : State) :
    (runFrame mode o nan s).cmd = s.cmd := by simp [runFrame]

@[simp] theorem runFrame_status (mode : Mode) (o : Operands) (nan : Draws) (s : State) :
    (runFrame mode o nan s).status = s.status := by simp [runFrame]

@[simp] theorem runFrame_faultCause (mode : Mode) (o : Operands) (nan : Draws) (s : State) :
    (runFrame mode o nan s).faultCause = s.faultCause := by simp [runFrame]

@[simp] theorem runFrame_faultInfo (mode : Mode) (o : Operands) (nan : Draws) (s : State) :
    (runFrame mode o nan s).faultInfo = s.faultInfo := by simp [runFrame]

@[simp] theorem runFrame_pending (mode : Mode) (o : Operands) (nan : Draws) (s : State) :
    (runFrame mode o nan s).pending = s.pending := by simp [runFrame]

@[simp] theorem runFrame_record (mode : Mode) (o : Operands) (nan : Draws) (s : State) :
    (runFrame mode o nan s).record = s.record := by simp [runFrame]

@[simp] theorem runFrame_draws (mode : Mode) (o : Operands) (nan : Draws) (s : State) :
    (runFrame mode o nan s).draws = s.draws := by simp [runFrame]

@[simp] theorem runFrame_inputs (mode : Mode) (o : Operands) (nan : Draws) (s : State) :
    (runFrame mode o nan s).inputs = s.inputs := by simp [runFrame]

@[simp] theorem runFrame_responses (mode : Mode) (o : Operands) (nan : Draws) (s : State) :
    (runFrame mode o nan s).responses = s.responses := by simp [runFrame]

/-- A frame command faults with nothing else changed, or runs phases 5 to 9 and completes (R170, R200, R235). -/
theorem frameCommand_cases (mode : Mode) (s : State) :
    (∃ f, frameFault (drawsOf s) mode (operandsOf mode s) s = some f ∧
      frameCommand mode s = takeFault f (noteOperands mode s)) ∨
    (frameFault (drawsOf s) mode (operandsOf mode s) s = none ∧
      frameCommand mode s = complete (runFrame mode (operandsOf mode s) (drawsOf s) (noteOperands mode s))) := by
  unfold frameCommand
  cases h : frameFault (drawsOf s) mode (operandsOf mode s) s with
  | some f => exact .inl ⟨f, rfl, rfl⟩
  | none => exact .inr ⟨rfl, rfl⟩

end Sys2Proof.Machine
end

