-- ==== Sys2Proof/Laws/PerInstr.lean ====
section
/-! SUPPORT. Statements about every instruction, one lemma per constructor of `Instr`. -/

namespace Sys2Proof.Laws.EncodesWell

/-- The instruction is well-formed, its word is a command word (R101) with zero reserved bits (R100), its opcode is in
the map, and decoding the word gives the instruction back (R103). -/
def Statement (i : Instr) : Prop :=
  i.wf = true ∧ commandWordOk (encode i) = true ∧ (encode i).toNat = (opcodeOf i).toNat ∧
    commandOf (opcodeOf i) = some i ∧ decode (encode i) = .command i

theorem pfPre : Statement .pfPre := by unfold Statement; decide

theorem pfPreLa : Statement .pfPreLa := by unfold Statement; decide

theorem pfPreGain : Statement .pfPreGain := by unfold Statement; decide

theorem pfPost : Statement .pfPost := by unfold Statement; decide

theorem pfInit : Statement .pfInit := by unfold Statement; decide

theorem pfClrstat : Statement .pfClrstat := by unfold Statement; decide

end Sys2Proof.Laws.EncodesWell
end

