-- ==== Sys2Proof/Laws/Step.lean ====
section
/-! SUPPORT. What one step can do, said once. -/

namespace Sys2Proof.Machine

/-- A block turn with nothing pending keeps the state (R247); with a command word pending it is the command's meaning;
with an illegal word it is the fault (R201). -/
theorem blockTurn_cases (s : State) :
    (s.pending = none ∧ blockTurn s = .next s) ∨
    (∃ w i, s.pending = some w ∧ decode w = .command i ∧ blockTurn s = exec i s) ∨
    (∃ w opc, s.pending = some w ∧ decode w = .illegalCommand opc ∧
      blockTurn s = .next (takeFault (illegalCommandFault opc) s)) := by
  unfold blockTurn fetch
  cases hp : s.pending with
  | none => exact .inl ⟨rfl, rfl⟩
  | some w =>
    cases hd : decode w with
    | command i => exact .inr (.inl ⟨w, i, rfl, hd, by simp [hd]⟩)
    | illegalCommand opc => exact .inr (.inr ⟨w, opc, rfl, hd, by simp [hd]⟩)
    | notOneWord =>
      exfalso
      unfold decode at hd
      split at hd
      · split at hd <;> cases hd
      · cases hd

/-- A command's meaning is a next state, and which one (R202 to R207). -/
theorem exec_cases (i : Instr) (s : State) :
    (∃ mode, exec i s = .next (frameCommand mode s)) ∨
    exec i s = .next (complete (initFilterState s)) ∨ exec i s = .next (complete (clearFault s)) := by
  cases i
  · exact .inl ⟨.pre, rfl⟩
  · exact .inl ⟨.preLa, rfl⟩
  · exact .inl ⟨.preGain, rfl⟩
  · exact .inl ⟨.post, rfl⟩
  · exact .inr (.inl rfl)
  · exact .inr (.inr rfl)

/-- One step: the block's turn, or the host event or reset at the head of the order (R80). -/
theorem step_cases {s t : State} (h : step s = .next t) :
    (∃ rest, (s.inputs = [] ∧ rest = [] ∨ s.inputs = .block :: rest) ∧
      blockTurn { s with inputs := rest } = .next t) ∨
    (∃ addr width rest, s.inputs = .read addr width :: rest ∧ t = hostRead addr width { s with inputs := rest }) ∨
    (∃ addr width v rest, s.inputs = .write addr width v :: rest ∧
      t = hostWrite addr width v { s with inputs := rest }) ∨
    (∃ polls rest, s.inputs = .wait polls :: rest ∧ t = hostWait polls { s with inputs := rest }) ∨
    (∃ rest, s.inputs = .reset :: rest ∧ t = applyReset { s with inputs := rest }) := by
  unfold step at h
  split at h
  · rename_i e
    refine .inl ⟨[], .inl ⟨e, rfl⟩, ?_⟩
    rw [← e]; exact h
  · rename_i rest e; exact .inl ⟨rest, .inr e, h⟩
  · rename_i addr width rest e; exact .inr (.inl ⟨addr, width, rest, e, by cases h; rfl⟩)
  · rename_i addr width v rest e; exact .inr (.inr (.inl ⟨addr, width, v, rest, e, by cases h; rfl⟩))
  · rename_i polls rest e; exact .inr (.inr (.inr (.inl ⟨polls, rest, e, by cases h; rfl⟩)))
  · rename_i rest e; exact .inr (.inr (.inr (.inr ⟨rest, e, by cases h; rfl⟩)))

end Sys2Proof.Machine
end

