-- ==== Sys2Proof/Laws/Update.lean ====
section
/-! SUPPORT. What the check of one step lag can answer. -/

namespace Sys2Proof.Machine

/-- A step lag is refused for its offset, or, the offset being legal, for its row, or passes with both legal (R158,
R172). -/
theorem stepFault_cases (nan : Draws) (c : Config) (m n : Nat) (lag : F64) :
    (stepFault nan c m n lag = some ⟨.lagOffsetRange, c.steps * m + n⟩ ∧
      ∀ offset, lagOffsetOf nan m n (delaySum nan c m n lag) = some offset →
        offset < c.lagOffsetMin ∨ (c.lagOffsetMax : Int) < offset) ∨
    ∃ offset, lagOffsetOf nan m n (delaySum nan c m n lag) = some offset ∧
      (c.lagOffsetMin : Int) ≤ offset ∧ offset ≤ c.lagOffsetMax ∧
      ((stepFault nan c m n lag = some ⟨.fractionIndexRange, c.steps * m + n⟩ ∧
          ∀ row, rowOf nan m n (delaySum nan c m n lag) offset = some row → row < 0 ∨ 7 < row) ∨
        (stepFault nan c m n lag = none ∧
          ∃ row, rowOf nan m n (delaySum nan c m n lag) offset = some row ∧ 0 ≤ row ∧ row ≤ 7)) := by
  simp only [stepFault]
  cases offsetIs : lagOffsetOf nan m n (delaySum nan c m n lag) with
  | none => exact .inl ⟨rfl, fun _ h => nomatch h⟩
  | some offset =>
    dsimp only
    split
    · rename_i out
      exact .inl ⟨rfl, fun _ h => Option.some.inj h ▸ out⟩
    · rename_i legal
      refine .inr ⟨offset, rfl, by omega, by omega, ?_⟩
      cases rowIs : rowOf nan m n (delaySum nan c m n lag) offset with
      | none => exact .inl ⟨rfl, fun _ h => nomatch h⟩
      | some row =>
        dsimp only
        split
        · rename_i out
          exact .inl ⟨rfl, fun _ h => by obtain rfl := Option.some.inj h; simpa using out⟩
        · rename_i legal
          simp only [fracRows] at legal
          exact .inr ⟨rfl, row, rfl, by omega, by omega⟩

end Sys2Proof.Machine
end

