-- ==== Sys2Proof/Tests/Slice0.lean ====
section
/-! SUPPORT. The model's own tests. Expected values come from the spec: its tables and worked examples, named at each
test, or its reference script (95, Appendix A) run with the parameters of `tiny`. The `witness_` theorems show, for each
statement of `Certificates/Slice0/Obligations.lean` that has hypotheses, a state and operands that meet them. -/

namespace Sys2Proof.Tests

open Sys2Proof Sys2Proof.Machine

-- One kernel evaluation at a time: many at once ask for more threads than a check may have.
set_option Elab.async false

/-! ### helpers -/

/-- The next state of an outcome satisfies a check. -/
def next (o : Host.Outcome State Fault Refusal) (check : State → Bool) : Bool :=
  match o with
  | .next t => check t
  | .fault _ => false
  | .refused _ => false

/-- An outcome that is a next state. -/
theorem exists_next {o : Host.Outcome State Fault Refusal} {check : State → Bool} (h : next o check = true) :
    ∃ t, o = .next t ∧ check t = true := by
  cases o with
  | next t => exact ⟨t, rfl, h⟩
  | fault r => cases h
  | refused r => cases h

/-- A check of every entry of a list. -/
theorem all_of {α : Type} {l : List α} {P : α → Prop} [DecidablePred P] (h : (l.all fun x => decide (P x)) = true) :
    ∀ x ∈ l, P x := by simpa using h

/-- A legal configuration with frames of four samples, one a sub-frame, and a lookahead of one. -/
def tiny : Config :=
  { Config.default with
    frameMs := 4
    sampleRate := 1000
    frameLen := 4
    steps := 1
    samplesPerStep := 1
    lookahead := 1
    histLen := 16
    lagMin := 0x4020000000000000#64
    lagMax := 0x4028000000000000#64
    lagOffsetMax := 16 }

/-- Written entries. -/
def wrote (vs : List F64) : List Slot := vs.map fun v => ⟨v, true⟩

/-- LAST_LAG 10.0, LAST_GAIN 0.5, HIST -1.75 to 2.0 by quarters, DAMP 0.5, -0.25, 0.125, 1.0, -0.5; LAG 10.0, 10.25,
9.0, 11.0; GAIN 0.5, 0.25, -1.0, 0.75; IN 1.0, -2.0, 0.5, 3.0, 0.25. -/
def idleState : State :=
  { State.initial tiny with
    lastLag := 0x4024000000000000#64
    lastGain := 0x3FE0000000000000#64
    hist :=
      [0xBFFC000000000000#64, 0xBFF8000000000000#64, 0xBFF4000000000000#64, 0xBFF0000000000000#64,
       0xBFE8000000000000#64, 0xBFE0000000000000#64, 0xBFD0000000000000#64, 0x0000000000000000#64,
       0x3FD0000000000000#64, 0x3FE0000000000000#64, 0x3FE8000000000000#64, 0x3FF0000000000000#64,
       0x3FF4000000000000#64, 0x3FF8000000000000#64, 0x3FFC000000000000#64, 0x4000000000000000#64]
    damp :=
      [0x3FE0000000000000#64, 0xBFD0000000000000#64, 0x3FC0000000000000#64, 0x3FF0000000000000#64,
       0xBFE0000000000000#64]
    lag := wrote [0x4024000000000000#64, 0x4024800000000000#64, 0x4022000000000000#64, 0x4026000000000000#64]
    gain := wrote [0x3FE0000000000000#64, 0x3FD0000000000000#64, 0xBFF0000000000000#64, 0x3FE8000000000000#64]
    input := wrote [0x3FF0000000000000#64, 0xC000000000000000#64, 0x3FE0000000000000#64, 0x4008000000000000#64,
      0x3FD0000000000000#64] }

/-- `idleState` with other target lags. -/
def withLags (lags : List F64) : State := { idleState with lag := wrote lags }

/-- Target lags whose step 1 has the odd delay 11.0 (lag 9.5). -/
def oddState : State :=
  withLags [0x4024000000000000#64, 0x4023000000000000#64, 0x4024000000000000#64, 0x4024000000000000#64]

/-- A fault recorded, nothing pending. -/
def faultedState : State := takeFault ⟨.fractionIndexRange, 2⟩ idleState

/-- A command word accepted, and the events to come. -/
def accepted (w : Word) (es : List Event) (s : State) : State := { accept w { s with cmd := w } with inputs := es }

/-- Free NaN bits of no account: every value below is a number. -/
def anyNan : Draws := fun _ => F64.zero

/-! ### WellFormed: each check refuses an ill-formed term -/

theorem test_default_wf : Config.default.wf := by decide +kernel
theorem test_tiny_wf : tiny.wf := by decide +kernel
theorem test_wf_frame : ¬ Config.frameOk { Config.default with frameLen := 241 } := by decide +kernel
theorem test_wf_frame_ms : ¬ Config.frameOk { Config.default with frameMs := 20 } := by decide +kernel
theorem test_wf_history : ¬ Config.historyOk { Config.default with histLen := 163 } := by decide +kernel
theorem test_wf_history_edge : Config.historyOk { Config.default with histLen := 164 } := by decide +kernel
theorem test_wf_offsets : ¬ Config.offsetsOk { Config.default with lagOffsetMin := 8 } := by decide +kernel
theorem test_wf_lags : ¬ Config.lagsOk { Config.default with lagOffsetMax := 142 } := by decide +kernel
theorem test_wf_lags_nan : ¬ Config.lagsOk { Config.default with lagMin := 0x7FF8000000000000#64 } := by
  decide +kernel
theorem test_wf_tables : ¬ Config.tablesOk { Config.default with dampCoef := [] } := by decide +kernel
theorem test_wf_sizes : ¬ Config.sizesOk { Config.default with histLen := 2 ^ 31 } := by decide +kernel
theorem test_wf_map_moved : ¬ Config.mapFits { Config.default with pfMap := { RegMap.r71 with cmd := 0x60 } } := by
  decide +kernel
theorem test_wf_map_overlap : mapOk { Config.default with pfMap := { RegMap.r71 with output := 0x1800 } } = false := by
  decide +kernel
theorem test_wf_word_reserved : commandWordOk 0x11#64 = false := by decide
theorem test_wf_word_opcode : commandWordOk 0x7#64 = false := by decide
theorem test_wf_word_zero : commandWordOk 0x0#64 = false := by decide

/-! ### decoding: words written out from R100 and R101 -/

theorem test_decode_pf_pre : decode 0x0000000000000001#64 = .command .pfPre := by decide
theorem test_decode_pf_pre_la : decode 0x0000000000000002#64 = .command .pfPreLa := by decide
theorem test_decode_pf_pre_gain : decode 0x0000000000000003#64 = .command .pfPreGain := by decide
theorem test_decode_pf_post : decode 0x0000000000000004#64 = .command .pfPost := by decide
theorem test_decode_pf_init : decode 0x0000000000000005#64 = .command .pfInit := by decide
theorem test_decode_pf_clrstat : decode 0x0000000000000006#64 = .command .pfClrstat := by decide
/-- V-E. -/
theorem test_decode_illegal :
    decode 0x0#64 = .illegalCommand 0#4 ∧ decode 0x7#64 = .illegalCommand 7#4 ∧
    decode 0xF#64 = .illegalCommand 15#4 ∧ decode 0x10#64 = .illegalCommand 0#4 ∧
    decode 0x11#64 = .illegalCommand 1#4 ∧ decode 0x8000000000000001#64 = .illegalCommand 1#4 ∧
    decode 0xFFFFFFFFFFFFFFFF#64 = .illegalCommand 15#4 := by decide
theorem test_decode_bytes : decodeBytes [3#8, 0#8, 0#8, 0#8, 0#8, 0#8, 0#8, 0#8] = .command .pfPreGain := by decide
theorem test_decode_short : decodeBytes [3#8, 0#8] = .notOneWord := by decide
theorem test_table_word : decodeTableWord 64 4 = some .pfPost ∧ decodeTableWord 64 8 = none := by decide

/-! ### arithmetic -/

/-- IEEE 754: 0.1 + 0.2, 0.1 x 3.0, 1.0 / 3.0, and an exact zero difference. -/
theorem test_arithmetic :
    F64.add 0 0x3FB999999999999A#64 0x3FC999999999999A#64 = 0x3FD3333333333334#64 ∧
    F64.mul 0 0x3FB999999999999A#64 0x4008000000000000#64 = 0x3FD3333333333334#64 ∧
    F64.div 0 F64.one 0x4008000000000000#64 = 0x3FD5555555555555#64 ∧
    F64.sub 0 F64.one F64.one = F64.zero := by decide +kernel
/-- IEEE 754: overflow, underflow to a subnormal, signed zeros. -/
theorem test_arithmetic_edges :
    F64.add 0 0x7FEFFFFFFFFFFFFF#64 0x7FEFFFFFFFFFFFFF#64 = 0x7FF0000000000000#64 ∧
    F64.mul 0 0x0010000000000000#64 F64.half = 0x0008000000000000#64 ∧
    F64.sub 0 0x8000000000000000#64 F64.zero = 0x8000000000000000#64 ∧
    F64.add 0 0x8000000000000000#64 F64.zero = F64.zero := by decide +kernel
/-- R20: infinity minus infinity is a NaN, whichever. -/
theorem test_arithmetic_nan :
    F64.isNaN (F64.sub 0 0x7FF0000000000000#64 0x7FF0000000000000#64) = true ∧
    F64.sub 0xFFF0000000000003#64 0x7FF0000000000000#64 0x7FF0000000000000#64 = 0xFFF0000000000003#64 := by
  decide +kernel
/-- R153, R154, R159: `rne` of 3.5, 1.5, 7.5, -0.5; and its domain (R16). -/
theorem test_rne :
    F64.rne 0x400C000000000000#64 = some 4 ∧ F64.rne 0x3FF8000000000000#64 = some 2 ∧
    F64.rne 0x401E000000000000#64 = some 8 ∧ F64.rne 0xBFE0000000000000#64 = some 0 ∧
    F64.rne 0x41DFFFFFFFC00000#64 = some 2147483647 ∧ F64.rne 0x41E0000000000000#64 = none := by decide +kernel

/-! ### UPDATE: R159, V-U -/

/-- The offset and the row of a step lag, default `FILT_DELAY`. -/
def split (lag : F64) : Option Int × Option Int :=
  let t := delaySum anyNan Config.default 0 0 lag
  (lagOffsetOf anyNan 0 0 t, (lagOffsetOf anyNan 0 0 t).bind (rowOf anyNan 0 0 t))

/-- 20.0, 20.25, 20.5, 21.0, 21.5 -/
theorem test_update_low :
    split 0x4034000000000000#64 = (some 22, some 4) ∧ split 0x4034400000000000#64 = (some 22, some 2) ∧
    split 0x4034800000000000#64 = (some 22, some 0) ∧ split 0x4035000000000000#64 = (some 23, some 4) ∧
    split 0x4035800000000000#64 = (some 24, some 8) := by decide +kernel
/-- 40.1, 40.125, 39.9375, 188.5, 188.6 -/
theorem test_update_high :
    split 0x40440CCCCCCCCCCD#64 = (some 42, some 3) ∧ split 0x4044100000000000#64 = (some 42, some 2) ∧
    split 0x4043F80000000000#64 = (some 42, some 4) ∧ split 0x4067900000000000#64 = (some 190, some 0) ∧
    split 0x4067933333333333#64 = (some 191, some 7) := by decide +kernel
/-- 21.5 is refused for its row, 188.6 for its offset. -/
theorem test_step_fault :
    stepFault anyNan Config.default 1 2 0x4035800000000000#64 = some ⟨.fractionIndexRange, 7⟩ ∧
    stepFault anyNan Config.default 1 2 0x4067933333333333#64 = some ⟨.lagOffsetRange, 7⟩ ∧
    stepFault anyNan Config.default 1 2 0x4044000000000000#64 = none := by decide +kernel
/-- R160: five increments from 0 and a sixth; five decrements from 1. -/
theorem test_multipliers :
    (List.range 5).foldl (fun g _ => multUp anyNan Config.default 0 0 g) F64.zero = F64.one ∧
    multUp anyNan Config.default 0 0 F64.one = F64.one ∧
    (List.range 5).foldl (fun g _ => multDown anyNan Config.default 1 0 g) F64.one = 0x3C90000000000000#64 := by
  decide +kernel

/-! ### SEGMENT: the examples of R138 -/

/-- Work of R138: zeros, but what the example gives. -/
def exampleState (mode : Mode) (sub index : Nat) (offset : Int) (wbuf : Nat → F64) (gmult : List F64)
    (lane : List Slot) : State :=
  { State.reset with
    trial := lane :: List.replicate 3 (List.replicate 264 Slot.unwritten)
    work := { Work.idle Config.default with
      mode := mode
      sub := sub
      index := index
      lagOffset := offset
      row := 4
      wGain := F64.half
      wbuf := (List.range 454).map wbuf
      gmult := gmult } }

/-- IN all zero. -/
def silence : Operands := ⟨[], [], []⟩

/-- R138 (a). -/
theorem test_sample_a :
    let t := sampleStep silence anyNan (exampleState .pre 0 48 42
      (fun k => if k = 200 then 0x4000000000000000#64 else 0) [] [])
    t.work.wdamp.head? = some 0x3FEFFFFFFFFFFFA6#64 ∧ peek t (.output 48) = 0x3FB1EB851EB851BA#64 ∧
    t.work.wbuf[238]? = some 0x3FB1EB851EB851BA#64 ∧ t.work.index = 49 := by decide +kernel
/-- R138 (b). -/
theorem test_sample_b :
    peek (sampleStep silence anyNan (exampleState .preGain 0 5 22
      (fun k => if k = 177 then 0x4000000000000000#64 else 0)
      [0x3FC999999999999A#64, 0, 0, 0] (List.replicate 264 ⟨0, true⟩))) (.trial 0 5) = 0x3F9CAC083126E929#64 := by
  decide +kernel
/-- R138 (c). -/
theorem test_sample_c :
    let t := sampleStep silence anyNan (exampleState .preGain 1 30 22 (fun _ => 0)
      [F64.one, 0x3FC999999999999A#64, 0, 0] ((List.replicate 264 ⟨0, true⟩).set 12 ⟨F64.one, true⟩))
    peek t (.trial 0 30) = 0x3FA1EB851EB851BA#64 ∧ peek t (.trial 1 30) = 0 ∧ marked t (.trial 1 30) = true ∧
    marked t (.trial 2 30) = false ∧ marked t (.trial 3 30) = false := by decide +kernel

/-! ### frame commands: Appendix A with the parameters of `tiny` -/

theorem test_pf_pre :
    next (exec .pfPre idleState) (fun t =>
      decide ((List.range 4).map (fun k => peek t (.output k)) =
        [0x3FF151EB851EB852#64, 0xC0022D8969BCE6F9#64, 0x3FC7029A9E8DE38A#64, 0x4009C6EB4603DC43#64] ∧
      marked t (.output 4) = false ∧ t.status = 2 ∧
      t.hist.drop 12 =
        [0x4000A8F5C28F5C29#64, 0xC01116C4B4DE737C#64, 0x3FE5C0A6A7A378E2#64, 0x4018E375A301EE22#64] ∧
      t.damp = [0x3FE1FFFFFFFFFFCD#64, 0xBFEFFFFFFFFFFFA7#64, 0x3FBC660C533EF9CD#64, 0x3FBFFFFFFFFFFFA6#64,
        0x3FE0000000000000#64] ∧
      t.lastLag = 0x4026000000000000#64 ∧ t.lastGain = 0x3FE8000000000000#64)) = true := by decide +kernel

theorem test_pf_pre_la :
    next (exec .pfPreLa idleState) (fun t =>
      decide (peek t (.output 3) = 0x4009C6EB4603DC43#64 ∧ peek t (.output 4) = 0x3FE90D7374704571#64 ∧
        t.hist[15]? = some 0x4018E375A301EE22#64 ∧ t.damp.head? = some 0x3FE1FFFFFFFFFFCD#64 ∧
        marked t (.trial 0 0) = false)) = true := by decide +kernel

theorem test_pf_pre_gain :
    next (exec .pfPreGain idleState) (fun t =>
      decide (t.trial.map (·.map (·.value)) =
        [[0x3F6CAC083126E929#64, 0xBF89999999999952#64, 0xBFA0624DD2F1A9CE#64, 0xBF89999999999952#64,
          0x3F6CAC083126E929#64],
         [0x0000000000000000#64, 0x3F7971F690386D23#64, 0xBF96B809DC326171#64, 0xBFAD148780407CBA#64,
          0xBF96B809DC326171#64],
         [0x0000000000000000#64, 0x0000000000000000#64, 0x3F8CAC083126E92B#64, 0xBFA9999999999953#64,
          0xBFC0624DD2F1A9CF#64],
         [0x0000000000000000#64, 0x0000000000000000#64, 0x0000000000000000#64, 0x3F85810624DD2EDE#64,
          0xBF9810624DD2F164#64]] ∧
      peek t (.output 4) = 0x3FE90D7374704571#64 ∧ t.hist = idleState.hist ∧ t.damp = idleState.damp ∧
      t.lastLag = idleState.lastLag ∧ t.lastGain = idleState.lastGain)) = true := by decide +kernel

theorem test_pf_post :
    next (exec .pfPost idleState) (fun t =>
      decide ((List.range 4).map (fun k => peek t (.output k)) =
        [0x3FF0FF7CED916873#64, 0xC001BEEA08F904E4#64, 0x3FE2D56CFB0FD68F#64, 0x4006557820E267CE#64] ∧
      t.hist[15]? = some 0x40172ABC107133E7#64 ∧ t.damp.head? = some 0xBFE7666666666626#64 ∧
      t.lastGain = 0xBFEF333333333334#64 ∧ t.gain = idleState.gain)) = true := by decide +kernel

/-- R248: LAST_LAG, the four target lags, and the fault, all with the default parameters. -/
def faultOf (lastLag : F64) (lags : List F64) : Option CommandFault :=
  let s := { State.reset with lastLag := lastLag, lag := wrote lags, gain := wrote (List.replicate 4 F64.half) }
  frameFault anyNan .pre (operandsOf .pre s) s

/-- R248, rows 1 and 2: 150 at once; NaN before 19. -/
theorem test_fault_target :
    faultOf 0x4044000000000000#64 [0x4062C00000000000#64, 0x4044000000000000#64, 0x4044000000000000#64,
      0x4044000000000000#64] = some ⟨.invalidLagRange, 0⟩ ∧
    faultOf 0x4044000000000000#64 [0x4044000000000000#64, 0x4044000000000000#64, 0x7FF8000000000000#64,
      0x4033000000000000#64] = some ⟨.invalidLagRange, 2⟩ := by decide +kernel
/-- R248, rows 3, 4, 6: 21.5 under fallback; from 22.0; the ramp to 42.5. -/
theorem test_fault_row :
    faultOf 0x4044000000000000#64 (List.replicate 4 0x4035800000000000#64) = some ⟨.fractionIndexRange, 0⟩ ∧
    faultOf 0x4036000000000000#64 (List.replicate 4 0x4035800000000000#64) = some ⟨.fractionIndexRange, 5⟩ ∧
    faultOf 0x4044000000000000#64 [0x4045400000000000#64, 0x4045400000000000#64, 0x4045400000000000#64,
      0x4046C00000000000#64] = some ⟨.fractionIndexRange, 2⟩ := by decide +kernel
/-- R248, rows 7 to 9: LAST_LAG 205.0, NaN, 200.0 with lags of 140.0 (40.0 for the NaN). -/
theorem test_fault_offset :
    faultOf 0x4069A00000000000#64 (List.replicate 4 0x4061800000000000#64) = some ⟨.lagOffsetRange, 0⟩ ∧
    faultOf 0x7FF8000000000000#64 (List.replicate 4 0x4044000000000000#64) = some ⟨.lagOffsetRange, 0⟩ ∧
    faultOf 0x4069000000000000#64 (List.replicate 4 0x4061800000000000#64) = none := by decide +kernel
/-- R188: LAST_LAG 40.0 against 60.0, the next number above it, 26.8 and the next number below it. -/
theorem test_fallback_thresholds :
    (fallbackTest anyNan Config.default 0x4044000000000000#64 0x404E000000000000#64 = false) ∧
    (fallbackTest anyNan Config.default 0x4044000000000000#64 0x404E000000000001#64 = true) ∧
    (fallbackTest anyNan Config.default 0x4044000000000000#64 0x403ACCCCCCCCCCCD#64 = false) ∧
    (fallbackTest anyNan Config.default 0x4044000000000000#64 0x403ACCCCCCCCCCCC#64 = true) := by decide +kernel

/-! ### control commands and the host's side -/

/-- V-C: FilterState, and the data registers as they were. -/
theorem test_pf_init :
    next (exec .pfInit (accepted 5 [] idleState)) (fun t =>
      decide (t.hist = List.replicate 16 0 ∧ t.damp = List.replicate 5 0 ∧ t.lastLag = 0x4049000000000000#64 ∧
        t.lastGain = 0 ∧ t.status = 2 ∧ t.lag = idleState.lag)) = true := by decide +kernel
/-- R207's example. -/
theorem test_pf_clrstat :
    next (exec .pfClrstat (accepted 6 [] faultedState)) (fun t =>
      decide (t.status = 2 ∧ t.faultCause = 0 ∧ t.faultInfo = 0 ∧ t.hist = idleState.hist)) = true := by
  decide +kernel
/-- V-E: word 0x7 from reset. -/
theorem test_illegal_word :
    next (step (State.reset.withFetchWord 64 7)) (fun t =>
      decide (t.status = 4 ∧ t.faultCause = 1 ∧ t.faultInfo = 7)) = true := by decide +kernel
/-- V-M: offsets. -/
theorem test_offsets :
    [Reg.lag 3, .gain 3, .input 263, .output 50, .trial 0 50, .trial 3 263, .hist 189, .damp 4, .lastLag,
      .lastGain].map (offsetOf Config.default) =
    [0x0038, 0x0058, 0x1838, 0x2190, 0x3190, 0x6838, 0x85E8, 0x8620, 0x8628, 0x8630] := by decide
/-- V-M: the bytes of LAG0 = 40.0. -/
theorem test_window_bytes :
    (List.range 8).map (fun i => windowByte (hostWrite 0x20 8 0x4044000000000000#64 State.reset) (0x20 + i)) =
    [some 0#8, some 0#8, some 0#8, some 0#8, some 0#8, some 0#8, some 0x44#8, some 0x40#8] := by decide +kernel
/-- V-M: host violations from reset. -/
theorem test_violations :
    readViolation State.reset 0x20 4 = some .accessFault ∧ readViolation State.reset 0x24 8 = some .accessFault ∧
    readViolation State.reset 0x60 8 = some .accessFault ∧ readViolation State.reset 0x8638 8 = some .accessFault ∧
    writeViolation State.reset 0x8 8 = some .accessFault ∧ writeViolation State.reset 0x2000 8 = some .accessFault ∧
    readViolation State.reset 0x2000 8 = some .unwrittenRead ∧
    readViolation State.reset 0x20 8 = some .unwrittenRead := by decide +kernel
/-- V-M: violations while busy. -/
theorem test_busy :
    let s := accepted 5 [] State.reset
    peek s .status = 1 ∧ readViolation s 0x8 8 = none ∧ readViolation s 0x1000 8 = some .busyAccess ∧
    writeViolation s 0x0 8 = some .busyAccess := by decide +kernel
/-- V-E: while a fault is recorded the word 0x16 is stored and ignored. -/
theorem test_ignored_word :
    let t := hostWrite 0 8 0x16#64 faultedState
    t.cmd = 0x16#64 ∧ t.status = 4 ∧ t.pending = none ∧ t.faultInfo = 2 := by decide +kernel
/-- R106: `run PF_INIT` expands to the CMD write and the poll. -/
theorem test_run_expands :
    programEvents Config.default [.run .pfInit 2] = [.write 0 8 5#64, .wait 2] := by decide
/-- 95 L3: under the schedule of the programs the `wait` after `cmd PF_INIT` ends after its first `rd STATUS`. -/
theorem test_turn_before_wait :
    programEvents Config.default [.cmd .pfInit, .turn, .wait 0] = [.write 0 8 5#64, .block, .wait 0] := by decide

/-! ### witnesses: states and operands that meet the hypotheses of the statements -/

/-- `idleState` before its events. -/
def withEvents (es : List Event) (s : State) : State := { s with inputs := es }

/-- The working state in which the sub-frame loop of `idleState` starts, at sample `index` of sub-frame `sub`. -/
def loopState (mode : Mode) (sub index : Nat) : State :=
  let s := loopStart mode idleState
  { s with work := { s.work with sub := sub, index := index, lagOffset := 9, row := 4, wGain := F64.zero } }

/-- `idleState` with another CMD, OUT, TRIAL and working state, and another last IN entry, which `PF_PRE` does not
read. -/
def otherState : State :=
  { loopState .preGain 2 3 with
    input := wrote [0x3FF0000000000000#64, 0xC000000000000000#64, 0x3FE0000000000000#64, 0x4008000000000000#64, 0]
    output := List.replicate 5 ⟨0, true⟩
    cmd := 2
    draws := 0 }

/-- Zero gains, zero damper memory, a history and an input of numbers. -/
def zeroGainState : State :=
  { idleState with gain := wrote (List.replicate 4 F64.zero), lastGain := F64.zero, damp := List.replicate 5 F64.zero }

/-- The state of R138 (a) with gain zero, and a damper memory of zeros of both signs. -/
def silentState : State :=
  let s := exampleState .pre 0 48 42 (fun k => if k = 200 then 0x4000000000000000#64 else 0) [] []
  { s with work := { s.work with wGain := F64.zero, wdamp := [0, 0x8000000000000000#64, 0, 0, 0] } }

theorem witness_idle_wf : idleState.wf := by decide +kernel
theorem witness_faulted_wf : faultedState.wf ∧ faultedState.faulted = true ∧ faultedState.busy = false := by
  decide +kernel
theorem witness_accepted_wf : (accepted 1 [] idleState).wf ∧ (accepted 1 [] idleState).busy = true := by decide +kernel
theorem witness_frame_legal :
    FrameLegal .pre idleState ∧ FrameLegal .preLa idleState ∧ FrameLegal .preGain idleState ∧
    FrameLegal .post idleState := by
  unfold FrameLegal TargetLagsLegal; decide +kernel

/-- Words of each kind: the last command, and illegal ones beside the map. -/
theorem witness_DecodeSelectsExactlyTheMap :
    (∃ i : Instr, (6#64 : Word) = encode i) ∧ (∀ i : Instr, (7#64 : Word) ≠ encode i) ∧
    (∀ i : Instr, (0#64 : Word) ≠ encode i) ∧ ∀ i : Instr, (0x11#64 : Word) ≠ encode i :=
  ⟨⟨.pfClrstat, by decide⟩, by intro i; cases i <;> decide, by intro i; cases i <;> decide,
    by intro i; cases i <;> decide⟩
theorem witness_EncodedBytesDecode : Instr.wf .pfPre = true ∧ Instr.wf .pfClrstat = true := by decide
theorem witness_WordBytesRoundTrip : (List.replicate 8 (255#8 : Byte)).length = 8 := by decide
theorem witness_StepRunsTheDecodedCommand :
    (blockIsNext (accepted 1 [.block] idleState) ∧ blockIsNext (accepted 6 [] faultedState)) ∧
    (accepted 1 [.block] idleState).pending = some 1 ∧ decode 1 = .command .pfPre ∧ Instr.wf .pfPre = true ∧
    (accepted 6 [] faultedState).pending = some 6 ∧ decode 6 = .command .pfClrstat :=
  ⟨⟨Or.inr ⟨_, rfl⟩, Or.inl rfl⟩, rfl, by decide, rfl, rfl, by decide⟩
theorem witness_IllegalWordTakesItsFault :
    blockIsNext (accepted 0x10 [] idleState) ∧ (accepted 0x10 [] idleState).pending = some 0x10 ∧
    (0x10#64 : Word).extractLsb' 4 60 ≠ 0#60 ∧ (0x0#64 : Word).extractLsb' 0 4 = 0#4 ∧
    7#4 ≤ (0x7#64 : Word).extractLsb' 0 4 ∧ 7#4 ≤ (0xF#64 : Word).extractLsb' 0 4 :=
  ⟨Or.inl rfl, rfl, by decide, by decide, by decide, by decide⟩
theorem witness_StepKeepsWellFormed :
    (accepted 5 [] idleState).wf ∧ ∃ t, step (accepted 5 [] idleState) = .next t :=
  ⟨by decide +kernel, (exists_next (check := fun _ => true) (by decide +kernel)).imp fun _ h => h.1⟩
theorem witness_StepKeepsConfigurationAndRecord : ∃ t, step (withEvents [.read 0 4] idleState) = .next t :=
  (exists_next (check := fun _ => true) (by decide +kernel)).imp fun _ h => h.1
theorem witness_ResetEventGivesResetValues :
    (withEvents [.reset, .block] faultedState).inputs = .reset :: [.block] := rfl
theorem witness_ClearStatusCompletes : (accepted 6 [] faultedState).wf := by decide +kernel
theorem witness_FaultIsLeftByClearStatusOnly :
    (withEvents [.write 0 8 6, .block] faultedState).wf ∧
    (withEvents [.write 0 8 6, .block] faultedState).faulted = true ∧
    (withEvents [.write 0 8 6, .block] faultedState).busy = false ∧
    (withEvents [.write 0 8 6, .block] faultedState).inputs =
      .write (addressOf faultedState.cfg .cmd) 8 6 :: .block :: [] ∧ (0x16#64 : Word) ≠ 6#64 :=
  ⟨by decide +kernel, by decide, by decide, by decide, by decide⟩
theorem witness_IntegersConvertExactly :
    (9007199254740991 : Int).natAbs < 2 ^ 53 ∧ (-9007199254740991 : Int).natAbs < 2 ^ 53 := by decide +kernel
/-- Just below 2^31, and 2^31. -/
theorem witness_RneIsNearestTiesToEven :
    F64.isFinite 0x41DFFFFFFFFFFFFF#64 = true ∧
    (F64.toInt 0x41DFFFFFFFFFFFFF#64).natAbs < 2 ^ 31 * F64.oneUnits ∧
    ¬ (F64.isFinite 0x41E0000000000000#64 = true ∧
      (F64.toInt 0x41E0000000000000#64).natAbs < 2 ^ 31 * F64.oneUnits) := by decide +kernel
/-- The least magnitude that overflows, the one below it, and a tie. -/
theorem witness_NarrowingRoundsToNearestEven :
    0 < 2 ∧ F64.roundMag ((2 ^ 54 - 1) * 2 ^ 2044) 1 = F64.infBits ∧
    F64.roundMag ((2 ^ 54 - 1) * 2 ^ 2044 - 1) 1 < F64.infBits ∧ F64.roundMag 3 2 = 2 ∧ F64.roundMag 1 2 = 0 := by
  decide +kernel
theorem witness_RepresentableResultsAreExact :
    F64.toInt F64.one + F64.toInt F64.half = F64.toInt 0x3FF8000000000000#64 ∧
    F64.toInt 0x3FF8000000000000#64 ≠ 0 ∧ F64.toInt F64.one + F64.toInt (F64.neg F64.one) = 0 ∧
    F64.units F64.half * F64.units F64.eight = F64.units 0x4010000000000000#64 * F64.oneUnits ∧
    F64.units F64.eight * F64.oneUnits = F64.units 0x4030000000000000#64 * F64.units F64.half ∧
    F64.magBits F64.half ≠ 0 ∧ F64.magBits F64.zero = 0 ∧
    F64.isFinite F64.one = true ∧ F64.isFinite F64.half = true ∧ F64.isFinite F64.eight = true ∧
    F64.isFinite F64.zero = true ∧ F64.isFinite (F64.neg F64.one) = true ∧
    F64.isFinite 0x3FF8000000000000#64 = true ∧ F64.isFinite 0x4010000000000000#64 = true ∧
    F64.isFinite 0x4030000000000000#64 = true ∧ F64.isInf 0xFFF0000000000000#64 = true ∧
    F64.isNaN F64.half = false ∧ (0x4010000000000000#64 : F64).msb = (F64.half.msb != F64.eight.msb) ∧
    (0x4030000000000000#64 : F64).msb = (F64.eight.msb != F64.half.msb) := by decide +kernel
theorem witness_ComparisonsCompareValues :
    F64.isFinite F64.one = true ∧ F64.isFinite 0x8000000000000000#64 = true ∧
    F64.isInf 0x7FF0000000000000#64 = true ∧ F64.isInf 0xFFF0000000000000#64 = true ∧
    F64.isNaN 0xFFF0000000000000#64 = false ∧ F64.isNaN 0x7FEFFFFFFFFFFFFF#64 = false ∧
    F64.isNaN 0x7FF0000000000001#64 = true := by decide
theorem witness_FreeNanBitsShowOnlyInNans :
    F64.isNaN 0xFFF8000000000000#64 = true ∧ F64.isInf 0x7FF0000000000000#64 = true ∧ F64.magBits F64.zero = 0 := by
  decide
/-- 21.5 gives the odd delay 23, 20.5 the even delay 22; offset 24 is legal. -/
theorem witness_IntegerDelaysSelectRowEightOrZero :
    delaySum anyNan Config.default 0 0 0x4035800000000000#64 = F64.i2f 23 ∧
    delaySum anyNan Config.default 0 0 0x4034800000000000#64 = F64.i2f 22 ∧
    (23 : Int).natAbs < 2 ^ 30 ∧ (23 : Int) % 2 = 1 ∧ (22 : Int) % 2 = 0 ∧
    (Config.default.lagOffsetMin : Int) ≤ 23 + 1 ∧ (23 : Int) + 1 ≤ Config.default.lagOffsetMax := by decide +kernel
/-- Gain search in the first and in the last sub-frame, and another mode. -/
theorem witness_UpdateStepsTheMultipliers :
    (loopState .preGain 0 0).work.gmult.length = subframes ∧ (loopState .preGain 0 0).work.sub < subframes ∧
    (loopState .preGain 3 0).work.sub < subframes ∧ (loopState .preGain 3 0).work.mode = .preGain ∧
    (loopState .pre 0 0).work.gmult.length = subframes ∧ (loopState .pre 0 0).work.mode ≠ .preGain := by
  decide +kernel
theorem witness_MultiplierNeverExceedsItsCap :
    let s := { loopState .preGain 0 0 with
      work := { (loopState .preGain 0 0).work with gmult := [F64.one, F64.zero, F64.zero, F64.zero] } }
    s.work.mode = .preGain ∧ s.work.sub < s.work.gmult.length ∧
    s.work.gmult.getD s.work.sub 0 = s.cfg.gainMultMax ∧
    F64.lt s.cfg.gainMultMax (F64.add (anyNan ⟨.multUp, s.work.sub, s.work.stepNo, 0⟩) s.cfg.gainMultMax
      s.cfg.gainStep) = true := by decide +kernel
theorem witness_SampleStepIsTheAssembledStep :
    let s := loopState .preGain 3 4
    s.work.wdamp.length = dampTaps ∧ s.work.index < s.output.length ∧
    (s.work.mode = .preGain → s.work.sub < subframes ∧ s.trial.length = subframes ∧
      s.work.ddg.length = subframes ∧ ∀ d ∈ s.work.ddg, d.length = dampTaps) := by decide +kernel
/-- The smallest offset at the last sample, where trial taps are read, and the largest offset. -/
theorem witness_SampleStepStaysInBounds :
    let s := loopState .preGain 3 4
    s.cfg.wf ∧ (s.cfg.lagOffsetMin : Int) ≤ s.work.lagOffset ∧ s.work.lagOffset ≤ s.cfg.lagOffsetMax ∧
    s.work.index < s.cfg.segLen ∧ firstTrialTap s ≤ 8 ∧ 8 < interpTaps ∧
    (s.cfg.lagOffsetMin : Int) ≤ s.cfg.lagOffsetMax := by decide +kernel
theorem witness_SegmentIgnoresTheTrialStateOutsideGainSearch : (loopState .post 0 0).work.mode ≠ .preGain := by
  decide +kernel
theorem witness_ZeroGainPassesTheInput :
    let o : Operands := ⟨[], [], List.replicate 264 0x8000000000000000#64⟩
    silentState.work.wGain = F64.zero ∧ F64.isFinite (predict anyNan silentState) = true ∧
    (∀ d ∈ silentState.work.wdamp, F64.magBits d = 0) ∧
    (∀ c ∈ silentState.cfg.dampCoef, F64.isFinite c = true) ∧
    F64.isNaN (o.inputAt silentState.work.index) = false ∧ silentState.work.index < silentState.output.length :=
  ⟨rfl, by decide +kernel, all_of (by decide +kernel), all_of (by decide +kernel), by decide +kernel, by decide +kernel⟩
theorem witness_LookaheadKeepsTheParameters :
    (loopState .preLa 3 4).work.mode = .preLa ∧ (loopState .preGain 3 4).work.mode = .preGain := by decide +kernel

/-- Two steps a sub-frame, and a last lag from which the first step's lag is out of range. -/
def longState : State :=
  { withLags (List.replicate 4 0x4028000000000000#64) with
    cfg := { tiny with steps := 2, frameLen := 8, frameMs := 8 }
    lastLag := 0x4031800000000000#64 }

/-- The first and the last target lag out of range, the last a NaN. -/
theorem witness_TargetLagOutOfRangeFaults :
    (let s := withLags [0x4028000000000001#64, 0, 0, 0]
     ¬ (F64.le s.cfg.lagMin (readOperand s (.lag 0)) = true ∧ F64.le (readOperand s (.lag 0)) s.cfg.lagMax = true)) ∧
    (let s := withLags [0x4028000000000000#64, 0x4020000000000000#64, 0x4024000000000000#64, 0x7FF8000000000000#64]
     3 < subframes ∧ (∀ j, j < 3 → lagInRange s.cfg (readOperand s (.lag j)) = true) ∧
     ¬ (F64.le s.cfg.lagMin (readOperand s (.lag 3)) = true ∧ F64.le (readOperand s (.lag 3)) s.cfg.lagMax = true) ∧
     F64.isNaN (readOperand s (.lag 3)) = true) := by decide +kernel
/-- Step 1 has the odd delay 11.0, step 0 passes. -/
theorem witness_FirstFailingStepDecidesTheFault :
    TargetLagsLegal oddState ∧
    frameStepLags .pre oddState = [(0, 0, 0x4024000000000000#64)] ++ (1, 0, 0x4023000000000000#64) ::
      [(2, 0, 0x4024000000000000#64), (3, 0, 0x4024000000000000#64)] ∧
    (∀ j ∈ [((0 : Nat), (0 : Nat), (0x4024000000000000#64 : F64))],
      ¬ OffsetFails (drawsOf oddState) oddState.cfg j ∧ ¬ RowFails (drawsOf oddState) oddState.cfg j) ∧
    RowFails (drawsOf oddState) oddState.cfg (1, 0, 0x4023000000000000#64) := by
  have legal : stepOffset (drawsOf oddState) oddState.cfg 0 0 0x4024000000000000#64 = some 12 ∧
      stepRow (drawsOf oddState) oddState.cfg 0 0 0x4024000000000000#64 12 = some 4 := by decide +kernel
  have odd : stepOffset (drawsOf oddState) oddState.cfg 1 0 0x4023000000000000#64 = some 12 ∧
      stepRow (drawsOf oddState) oddState.cfg 1 0 0x4023000000000000#64 12 = some 8 := by decide +kernel
  refine ⟨by unfold TargetLagsLegal; decide +kernel, by decide +kernel, fun j hj => ?_,
    12, odd.1, by decide, by decide, fun row h => ?_⟩
  · obtain rfl := List.mem_singleton.mp hj
    refine ⟨fun h => absurd (h 12 legal.1) (by decide), ?_⟩
    rintro ⟨offset, h, -, -, fails⟩
    obtain rfl : 12 = offset := Option.some.inj (legal.1.symm.trans h)
    exact absurd (fails 4 legal.2) (by decide)
  · obtain rfl : 8 = row := Option.some.inj (odd.2.symm.trans h)
    decide

/-- Two steps a sub-frame, LAST_LAG 17.5 and every target lag 12.0: step 0's lag is 14.75, its offset 17 is above 16. -/
theorem witness_FirstFailingStepDecidesTheFault_offset :
    TargetLagsLegal longState ∧
    frameStepLags .pre longState = [] ++ (0, 0, 0x402D800000000000#64) :: (frameStepLags .pre longState).tail ∧
    OffsetFails (drawsOf longState) longState.cfg (0, 0, 0x402D800000000000#64) := by
  have offset : stepOffset (drawsOf longState) longState.cfg 0 0 0x402D800000000000#64 = some 17 := by decide +kernel
  refine ⟨by unfold TargetLagsLegal; decide +kernel, by decide +kernel, fun found h => ?_⟩
  obtain rfl : 17 = found := Option.some.inj (offset.symm.trans h)
  decide
theorem witness_FrameFaultsAreAtomic : ¬ FrameLegal .post oddState ∧ ¬ FrameLegal .pre (withLags [0, 0, 0, 0]) := by
  unfold FrameLegal TargetLagsLegal; decide +kernel
theorem witness_NanLastLagFaultsAtStepZero :
    let s := { idleState with lastLag := 0x7FF8000000000000#64 }
    s.cfg.wf ∧ F64.isNaN s.lastLag = true ∧ TargetLagsLegal s := by
  unfold TargetLagsLegal; decide +kernel
/-- Both ends of the range. -/
theorem witness_InRangeLagsHaveLegalOffsets :
    tiny.wf ∧ lagInRange tiny tiny.lagMin = true ∧ lagInRange tiny tiny.lagMax = true := by decide +kernel
theorem witness_ValidationCoversTheMainPass :
    idleState.wf ∧ FrameLegal .preGain idleState ∧ 3 < subframes ∧ 0 < idleState.cfg.steps :=
  ⟨witness_idle_wf, witness_frame_legal.2.2.1, by decide, by decide⟩
theorem witness_ValidatedLagsAreTheLagsUsed : 3 < subframes ∧ 0 < idleState.cfg.steps := by decide
theorem witness_SubframesRampFromTheExactTargets :
    0 < subframes ∧ 3 < subframes ∧ 0 < idleState.cfg.steps := by decide
/-- Fallback from LAST_LAG 40.0, none from 10.0, and a NaN. -/
theorem witness_FallbackSeedsTheRamp :
    (let s := { idleState with lastLag := 0x4044000000000000#64 }
     (seedOf anyNan .pre (operandsOf .pre s) s).fallback = true) ∧
    (seedOf anyNan .pre (operandsOf .pre idleState) idleState).fallback = false ∧
    F64.isNaN 0x7FF8000000000000#64 = true := by decide +kernel
theorem witness_GainSearchStartsCleared :
    (importWork .preGain (seedOf anyNan .preGain (operandsOf .preGain idleState) idleState) idleState).work.mode =
      .preGain ∧
    (importWork .pre (seedOf anyNan .pre (operandsOf .pre idleState) idleState) idleState).work.mode ≠ .preGain ∧
    3 < subframes ∧ 4 < idleState.cfg.segLen ∧ 4 < dampTaps := by decide +kernel
/-- The OUT entries written end at 3 for PRE, at 4 for PRE_GAIN. -/
theorem witness_FrameCommandsComplete :
    idleState.wf ∧ FrameLegal .pre idleState ∧ FrameLegal .preGain idleState ∧
    3 < samplesOf .pre idleState.cfg ∧ samplesOf .pre idleState.cfg ≤ 4 ∧ 4 < samplesOf .preGain idleState.cfg :=
  ⟨witness_idle_wf, witness_frame_legal.1, witness_frame_legal.2.2.1, by decide, by decide, by decide⟩
theorem witness_FrameOutputsAreTheSampleStepsOutputs :
    idleState.wf ∧ FrameLegal .preGain idleState ∧ FrameLegal .preLa idleState ∧ 3 < subframes ∧
    0 < idleState.cfg.steps ∧ 0 < idleState.cfg.samplesPerStep ∧ 0 < idleState.cfg.lookahead :=
  ⟨witness_idle_wf, witness_frame_legal.2.2.1, witness_frame_legal.2.1, by decide, by decide, by decide, by decide⟩
theorem witness_ZeroGainFramePassesTheInput :
    zeroGainState.wf ∧ FrameLegal .preGain zeroGainState ∧
    (∀ m, m < subframes → F64.magBits (readOperand zeroGainState (.gain m)) = 0) ∧
    F64.magBits zeroGainState.lastGain = 0 ∧ (∀ d ∈ zeroGainState.damp, F64.magBits d = 0) ∧
    F64.isFinite zeroGainState.cfg.enhancer = true ∧ (∀ c ∈ zeroGainState.cfg.dampCoef, F64.isFinite c = true) ∧
    (∀ row ∈ zeroGainState.cfg.interpCoef, ∀ c ∈ row, F64.magBits c ≤ F64.magBits F64.one) ∧
    (∀ h ∈ zeroGainState.hist, F64.isFinite h = true ∧ F64.units h ≤ 2 ^ 1000 * F64.oneUnits) ∧
    (∀ k, k < samplesOf .preGain zeroGainState.cfg → F64.isFinite (readOperand zeroGainState (.input k)) = true ∧
      F64.units (readOperand zeroGainState (.input k)) ≤ 2 ^ 1000 * F64.oneUnits) :=
  ⟨by decide +kernel, by unfold FrameLegal TargetLagsLegal; decide +kernel, by decide +kernel, by decide,
    all_of (by decide +kernel), by decide, all_of (by decide +kernel),
    fun row hr => all_of (List.all_eq_true.mp
      (by decide +kernel : (zeroGainState.cfg.interpCoef.all fun row =>
        row.all fun c => decide (F64.magBits c ≤ F64.magBits F64.one)) = true) row hr),
    all_of (by decide +kernel), by decide +kernel⟩
/-- Entry 12 is the first that a sample of the frame gives, entry 11 the last old one. -/
theorem witness_HistoryIsInputPlusOutput :
    idleState.wf ∧ Mode.post ≠ .preGain ∧ FrameLegal .post idleState ∧
    (∃ t, exec (frameInstr .post) idleState = .next t) ∧
    12 < idleState.cfg.histLen ∧ idleState.cfg.histLen ≤ idleState.cfg.frameLen + 12 ∧
    idleState.cfg.frameLen + 11 < idleState.cfg.histLen ∧ 0 < 4 ∧ 4 < dampTaps :=
  ⟨witness_idle_wf, by decide, witness_frame_legal.2.2.2, ⟨_, rfl⟩, by decide, by decide, by decide, by decide,
    by decide⟩
theorem witness_LookaheadCommandExtendsPre : idleState.wf ∧ FrameLegal .pre idleState :=
  ⟨witness_idle_wf, witness_frame_legal.1⟩
theorem witness_GainSearchOutputIsLookaheadOutput : idleState.wf ∧ FrameLegal .preLa idleState :=
  ⟨witness_idle_wf, witness_frame_legal.2.1⟩
theorem witness_PostIsPreWithScaledGains :
    idleState.wf ∧ ∀ m, m < subframes → marked idleState (.gain m) = true := ⟨witness_idle_wf, by decide +kernel⟩
/-- Two legal states; and an illegal one, which agrees with itself. -/
theorem witness_FrameResultsDependOnlyOnOperands :
    idleState.wf ∧ otherState.wf ∧ otherState.cfg = idleState.cfg ∧ sameFilterState idleState otherState ∧
    (otherState.draws = idleState.draws ∧ otherState.lag = idleState.lag ∧ otherState.gain = idleState.gain ∧
      ∀ k, k < samplesOf .pre idleState.cfg → otherState.input[k]? = idleState.input[k]?) ∧
    FrameLegal .pre idleState ∧ oddState.wf ∧ ¬ FrameLegal .pre oddState :=
  ⟨witness_idle_wf, by decide +kernel, by decide +kernel, by unfold sameFilterState; decide +kernel,
    by decide +kernel, witness_frame_legal.1, by decide +kernel,
    by unfold FrameLegal TargetLagsLegal; decide +kernel⟩
/-- `PF_INIT`, a reset and a host write of LAST_LAG change FilterState. -/
theorem witness_FilterStateChangesAtFourEventsOnly :
    (∃ t, step (accepted 5 [] idleState) = .next t ∧ ¬ sameFilterState (accepted 5 [] idleState) t) ∧
    (∃ t, step (withEvents [.reset] idleState) = .next t ∧ ¬ sameFilterState (withEvents [.reset] idleState) t) ∧
    (∃ t, step (withEvents [.write 0x8628 8 0] idleState) = .next t ∧
      ¬ sameFilterState (withEvents [.write 0x8628 8 0] idleState) t) :=
  ⟨⟨_, rfl, by unfold sameFilterState; decide +kernel⟩, ⟨_, rfl, by unfold sameFilterState; decide +kernel⟩,
    ⟨_, rfl, by unfold sameFilterState; decide +kernel⟩⟩
theorem witness_BlockNeverWritesItsInputs : ∃ t, blockTurn (accepted 1 [] idleState) = .next t := ⟨_, rfl⟩
/-- Byte 0 of LAG[0], and the entry of OUT that PF_PRE does not write. -/
theorem witness_CommandsWriteOnlyTheirRegisters :
    idleState.wf ∧ (∃ t, exec .pfPre idleState = .next t) ∧
    decodeOffset idleState.cfg (0x20 - 0x20 % 8) = some (.lag 0) ∧
    commandWrites .pfPre idleState.cfg (.lag 0) = false ∧
    decodeOffset idleState.cfg (0x2027 - 0x2027 % 8) = some (.output 4) ∧
    commandWrites .pfPre idleState.cfg (.output 4) = false :=
  ⟨witness_idle_wf, ⟨_, rfl⟩, by decide +kernel, by decide, by decide +kernel, by decide⟩
theorem witness_UnwrittenOperandsAreRecordedOnce :
    (∃ t, exec (frameInstr .pre) (State.initial tiny) = .next t) ∧ marked idleState (.lag 3) = true ∧
    marked (State.initial tiny) (.input 3) = false := ⟨⟨_, rfl⟩, by decide +kernel, by decide +kernel⟩
/-- The last entry of a lane and of the history. -/
theorem witness_RegisterMapIsOneToOne :
    tiny.wf ∧ (Reg.trial 3 4).inMap tiny = true ∧ (Reg.hist 15).inMap tiny = true ∧
    decodeOffset tiny 0x6020 = some (.trial 3 4) ∧ decodeOffset tiny 0x8078 = some (.hist 15) := by decide +kernel
theorem witness_WindowIsLittleEndian : idleState.cfg.wf ∧ (Reg.trial 3 4).inMap idleState.cfg = true ∧ 7 < 8 := by
  decide +kernel
/-- Busy; a fault recorded and another word; idle; and a fault recorded and the clearing word. -/
theorem witness_CommandWriteIsAccepted :
    (let s := accepted 1 [.write 0 8 5] idleState
     s.wf ∧ s.inputs = .write (addressOf s.cfg .cmd) 8 5 :: [] ∧ s.busy = true) ∧
    (let s := withEvents [.write 0 8 5] faultedState
     s.wf ∧ s.inputs = .write (addressOf s.cfg .cmd) 8 5 :: [] ∧ s.busy = false ∧ s.faulted = true) ∧
    (let s := withEvents [.write 0 8 5] idleState
     s.wf ∧ s.busy = false ∧ s.faulted = false) ∧
    (let s := withEvents [.write 0 8 6] faultedState
     s.wf ∧ s.busy = false ∧ s.faulted = true) :=
  ⟨⟨by decide +kernel, by decide, by decide⟩, ⟨by decide +kernel, by decide, by decide, by decide⟩,
    ⟨by decide +kernel, by decide, by decide⟩, ⟨by decide +kernel, by decide, by decide⟩⟩
/-- A marked entry, a register without a mark, and an entry nothing has written: idle, all in the map. -/
theorem witness_ReadsChangeNoRegister :
    (withEvents [.read 0x38 8] idleState).inputs = .read (addressOf tiny (.lag 3)) 8 :: [] ∧
    readViolation idleState 0x38 8 = none ∧ idleState.cfg.wf ∧ idleState.busy = false ∧
    (Reg.lag 3).inMap tiny = true ∧ marked idleState (.lag 3) = true ∧
    (Reg.hist 15).inMap tiny = true ∧ hasMark (.hist 15) = false ∧
    (Reg.trial 3 4).inMap tiny = true ∧ hasMark (.trial 3 4) = true ∧ marked idleState (.trial 3 4) = false := by
  decide +kernel
/-- Each kind: a width, an alignment, a hole; read and written. -/
theorem witness_UndefinedAccessesAreAccessFaults :
    (4 ≠ 8 ∧ 0x24 % 8 ≠ 0 ∧ decodeOffset idleState.cfg 0x8638 = none ∧ decodeOffset idleState.cfg 0xFFF8 = none) ∧
    (withEvents [.write 0x8638 8 1] idleState).inputs = .write (idleState.cfg.pfBase + 0x8638) 8 1 :: [] ∧
    (withEvents [.read 0x24 8] idleState).inputs = .read (idleState.cfg.pfBase + 0x24) 8 :: [] := by decide +kernel
theorem witness_ReadOnlyRegistersRefuseWrites :
    let s := withEvents [.write 0x2020 8 1] idleState
    s.cfg.wf ∧ (Reg.output 4).inMap s.cfg = true ∧ (Reg.output 4).readOnly = true ∧
    s.inputs = .write (addressOf s.cfg (.output 4)) 8 1 :: [] := by decide +kernel
/-- A write to LAG[3], a read of LAG[3], a read of FAULT_INFO. -/
theorem witness_BusyWindowAllowsFourReads :
    (accepted 1 [] idleState).cfg.wf ∧ (accepted 1 [] idleState).busy = true ∧ (Reg.lag 3).inMap tiny = true ∧
    (Reg.lag 3).readOnly = false ∧
    (accepted 1 [.write 0x38 8 1] idleState).inputs = .write (addressOf tiny (.lag 3)) 8 1 :: [] ∧
    (accepted 1 [.read 0x38 8] idleState).inputs = .read (addressOf tiny (.lag 3)) 8 :: [] ∧
    ¬ (Reg.lag 3 = .cmd ∨ Reg.lag 3 = .status ∨ Reg.lag 3 = .faultCause ∨ Reg.lag 3 = .faultInfo) ∧
    (accepted 1 [.read 0x18 8] idleState).inputs = .read (addressOf tiny .faultInfo) 8 :: [] := by decide +kernel
theorem witness_WrittenRegistersReadBack :
    let s := withEvents [.write 0x20 8 0x7FF0000000000001#64, .read 0x20 8] idleState
    s.wf ∧ s.busy = false ∧ (Reg.lag 0).inMap s.cfg = true ∧ (Reg.lag 0).readOnly = false ∧ Reg.lag 0 ≠ .cmd ∧
    s.inputs = .write (addressOf s.cfg (.lag 0)) 8 0x7FF0000000000001#64 ::
      .read (addressOf s.cfg (.lag 0)) 8 :: [] :=
  ⟨by decide +kernel, by decide, by decide, by decide, by decide, by decide⟩
theorem witness_WaitTerminates :
    (accepted 5 [.wait 0] idleState).wf ∧ (accepted 5 [.wait 0] idleState).busy = true ∧
    (accepted 5 [.wait 0] idleState).inputs = .wait 0 :: [] ∧
    ({ idleState with inputs := [.wait 0] } : State).wf ∧ idleState.busy = false :=
  ⟨by decide +kernel, by decide +kernel, by decide +kernel, by decide +kernel, by decide +kernel⟩

end Sys2Proof.Tests
end

section
/-! SUPPORT. Narrowing as rounding to nearest: the values of the magnitude images in their order, `rneDiv` as the
nearest integer, and the image `roundMag` chooses as the nearest of all images. -/

namespace Sys2Proof.F64

/-! ### the values of the magnitude images -/

/-- Every image is a significand `k` in a binade `e`; only the lowest binade holds significands below `2^52`. -/
theorem exists_binade (m : Nat) : ∃ e k, m = e * 2 ^ 52 + k ∧ (e = 0 ∨ 2 ^ 52 ≤ k) ∧ k < 2 ^ 53 := by
  by_cases low : m < 2 ^ 52
  · exact ⟨0, m, by omega, .inl rfl, by omega⟩
  · exact ⟨m / 2 ^ 52 - 1, m % 2 ^ 52 + 2 ^ 52, by omega, .inr (by omega), by omega⟩

/-- The value of significand `k` in binade `e`; `k = 2^53` is the first image of the next binade. -/
theorem unitsOf_binade {e k : Nat} (low : e = 0 ∨ 2 ^ 52 ≤ k) (high : k ≤ 2 ^ 53) :
    unitsOf (e * 2 ^ 52 + k) = k * 2 ^ e := by
  unfold unitsOf
  rcases Nat.lt_or_ge k (2 ^ 52) with small | normal
  · obtain rfl : e = 0 := by omega
    rw [if_pos (by omega)]
    omega
  · rw [if_neg (by omega)]
    rcases Nat.lt_or_ge k (2 ^ 53) with below | top
    · rw [show (e * 2 ^ 52 + k) / 2 ^ 52 - 1 = e by omega, show 2 ^ 52 + (e * 2 ^ 52 + k) % 2 ^ 52 = k by omega]
    · rw [show (e * 2 ^ 52 + k) / 2 ^ 52 - 1 = e + 1 by omega,
        show 2 ^ 52 + (e * 2 ^ 52 + k) % 2 ^ 52 = 2 ^ 52 by omega, show k = 2 ^ 52 * 2 by omega, Nat.pow_succ]
      ring

/-- A larger image has a larger value. -/
theorem unitsOf_strictMono : StrictMono unitsOf := by
  refine strictMono_nat_of_lt_succ fun m => ?_
  obtain ⟨e, k, rfl, low, high⟩ := exists_binade m
  rw [Nat.add_assoc, unitsOf_binade low high.le, unitsOf_binade (by omega) (by omega)]
  exact Nat.mul_lt_mul_of_pos_right (Nat.lt_succ_self k) (by positivity)

@[simp] theorem unitsOf_zero : unitsOf 0 = 0 := rfl

/-- A whole multiple of `2^e` units with a significand below `2^53` is the value of a finite image. -/
theorem exists_unitsOf_eq {k e : Nat} (hk : k < 2 ^ 53) (he : e ≤ 2045) :
    ∃ y, y < infBits ∧ unitsOf y = k * 2 ^ e := by
  induction e generalizing k with
  | zero => exact ⟨0 * 2 ^ 52 + k, by unfold infBits; omega, unitsOf_binade (.inl rfl) hk.le⟩
  | succ e ih =>
    rcases Nat.lt_or_ge k (2 ^ 52) with small | normal
    · obtain ⟨y, finite, value⟩ := ih (k := 2 * k) (by omega) (by omega)
      exact ⟨y, finite, by rw [value, Nat.pow_succ]; ring⟩
    · exact ⟨(e + 1) * 2 ^ 52 + k, by unfold infBits; omega, unitsOf_binade (.inr normal) hk.le⟩

/-- A value is a whole multiple of binade `e`'s step, or lies below that binade. -/
theorem unitsOf_multiple_or_below (e y : Nat) :
    (∃ j, unitsOf y = j * 2 ^ e) ∨ (e ≠ 0 ∧ unitsOf y < 2 ^ 52 * 2 ^ e) := by
  obtain ⟨b, k, rfl, low, high⟩ := exists_binade y
  rw [unitsOf_binade low high.le]
  rcases Nat.lt_or_ge b e with below | above
  · refine .inr ⟨by omega, ?_⟩
    calc k * 2 ^ b < 2 ^ 53 * 2 ^ b := Nat.mul_lt_mul_of_pos_right high (by positivity)
      _ = 2 ^ 52 * 2 ^ (b + 1) := by rw [Nat.pow_succ]; ring
      _ ≤ 2 ^ 52 * 2 ^ e := Nat.mul_le_mul_left _ (Nat.pow_le_pow_right (by decide) below)
  · exact .inl ⟨k * 2 ^ (b - e), by rw [Nat.mul_assoc, ← Nat.pow_add, Nat.sub_add_cancel above]⟩

/-! ### `rneDiv` is the nearest integer -/

/-- `rneDiv n d` is within half of `d` of `n / d`, and even where it is exactly half away. -/
theorem rneDiv_within_half (n : Nat) {d : Nat} (hd : 0 < d) :
    2 * ((n : Int) - d * rneDiv n d).natAbs ≤ d ∧
    (2 * ((n : Int) - d * rneDiv n d).natAbs = d → rneDiv n d % 2 = 0) := by
  have parts : (n : Int) = d * (n / d : Nat) + (n % d : Nat) := by exact_mod_cast (Nat.div_add_mod n d).symm
  have rest : n % d < d := Nat.mod_lt n hd
  unfold rneDiv
  dsimp only
  split <;> rename_i up
  · have gap : (n : Int) - d * ((n / d + 1 : Nat) : Int) = (n % d : Nat) - d := by rw [parts]; push_cast; ring
    rw [gap]; omega
  · have gap : (n : Int) - d * ((n / d : Nat) : Int) = (n % d : Nat) := by rw [parts]; push_cast; ring
    rw [gap]; omega

/-- No integer is nearer to `n / d` than `rneDiv n d`, which is even where another is as near (R14, R16). -/
theorem rneDiv_nearest (n : Nat) {d : Nat} (hd : 0 < d) (j : Nat) :
    ((n : Int) - d * rneDiv n d).natAbs ≤ ((n : Int) - d * j).natAbs ∧
    (((n : Int) - d * rneDiv n d).natAbs = ((n : Int) - d * j).natAbs → j ≠ rneDiv n d → rneDiv n d % 2 = 0) := by
  obtain ⟨close, tie⟩ := rneDiv_within_half n hd
  generalize rneDiv n d = k at close tie ⊢
  rcases lt_trichotomy j k with less | rfl | more
  · have apart : (d : Int) * j + d ≤ d * k := by exact_mod_cast Nat.mul_le_mul_left d less
    omega
  · exact ⟨le_rfl, fun _ other => absurd rfl other⟩
  · have apart : (d : Int) * k + d ≤ d * j := by exact_mod_cast Nat.mul_le_mul_left d more
    omega

theorem rneDiv_mul_right (n d : Nat) {k : Nat} (hk : 0 < k) : rneDiv (n * k) (d * k) = rneDiv n d := by
  have half : d * k < 2 * (n % d * k) ↔ d < 2 * (n % d) := by
    rw [← Nat.mul_assoc, Nat.mul_lt_mul_right hk]
  have tie : 2 * (n % d * k) = d * k ↔ 2 * (n % d) = d := by
    rw [← Nat.mul_assoc, Nat.mul_left_inj hk.ne']
  unfold rneDiv
  simp only [Nat.mul_div_mul_right _ _ hk, Nat.mul_mod_mul_right, half, tie]

/-! ### `roundMag` chooses the nearest image -/

/-- The number of binades above the lowest in which `n / d` units lie. -/
def binadeOf (n d : Nat) : Nat := Nat.log2 (n / d) - 52

/-- The image nearest to `n / d` units where the exponent has no upper end: `roundMag` before its cap. -/
def unboundedMag (n d : Nat) : Nat := binadeOf n d * 2 ^ 52 + rneDiv n (d * 2 ^ binadeOf n d)

theorem roundMag_eq_min (n d : Nat) : roundMag n d = min (unboundedMag n d) infBits := rfl

theorem lt_binadeOf_top (n : Nat) {d : Nat} (hd : 0 < d) : n < d * 2 ^ binadeOf n d * 2 ^ 53 := by
  have below : n / d < 2 ^ (binadeOf n d + 53) := by
    rcases Nat.eq_zero_or_pos (n / d) with zero | pos
    · rw [zero]; positivity
    · exact (Nat.log2_lt pos.ne').mp (by unfold binadeOf; omega)
  rw [Nat.mul_assoc, ← Nat.pow_add]
  exact (Nat.div_lt_iff_lt_mul hd).mp below |>.trans_eq (Nat.mul_comm _ _)

theorem binadeOf_bottom_le {n d : Nat} (hd : 0 < d) (above : binadeOf n d ≠ 0) :
    d * 2 ^ binadeOf n d * 2 ^ 52 ≤ n := by
  have pos : n / d ≠ 0 := by rintro zero; simp [binadeOf, zero] at above
  have reached : 2 ^ (binadeOf n d + 52) ≤ n / d :=
    (Nat.le_log2 pos).mp (by unfold binadeOf at above ⊢; omega)
  rw [Nat.mul_assoc, ← Nat.pow_add]
  exact (Nat.mul_comm _ _).trans_le ((Nat.le_div_iff_mul_le hd).mp reached)

/-- The value of the chosen image is the rounded significand in its binade. -/
theorem unitsOf_unboundedMag (n : Nat) {d : Nat} (hd : 0 < d) :
    unitsOf (unboundedMag n d) = rneDiv n (d * 2 ^ binadeOf n d) * 2 ^ binadeOf n d := by
  have top := lt_binadeOf_top n hd
  have bottom := binadeOf_bottom_le (n := n) hd
  have step : 0 < d * 2 ^ binadeOf n d := by positivity
  unfold unboundedMag
  generalize binadeOf n d = e at *
  obtain ⟨close, -⟩ := rneDiv_within_half n step
  generalize d * 2 ^ e = w at *
  apply unitsOf_binade
  · by_contra low
    have under : w * rneDiv n w + w ≤ w * 2 ^ 52 := Nat.mul_le_mul_left w (show rneDiv n w + 1 ≤ 2 ^ 52 by omega)
    have := bottom (by omega)
    omega
  · by_contra high
    have beyond : w * 2 ^ 53 + w ≤ w * rneDiv n w := Nat.mul_le_mul_left w (show 2 ^ 53 + 1 ≤ rneDiv n w by omega)
    omega

/-- No image is nearer to `n / d` units than `unboundedMag n d`, which is even where another is as near. -/
theorem unboundedMag_nearest (n : Nat) {d : Nat} (hd : 0 < d) (y : Nat) :
    ((n : Int) - d * unitsOf (unboundedMag n d)).natAbs ≤ ((n : Int) - d * unitsOf y).natAbs ∧
    (((n : Int) - d * unitsOf (unboundedMag n d)).natAbs = ((n : Int) - d * unitsOf y).natAbs →
      y ≠ unboundedMag n d → unboundedMag n d % 2 = 0) := by
  have bottom := binadeOf_bottom_le (n := n) hd
  have step : 0 < d * 2 ^ binadeOf n d := by positivity
  have value := unitsOf_unboundedMag n hd
  have parity : unboundedMag n d % 2 = rneDiv n (d * 2 ^ binadeOf n d) % 2 := by unfold unboundedMag; omega
  have scaled (j : Nat) : (d : Int) * ((j * 2 ^ binadeOf n d : Nat) : Int) = (d * 2 ^ binadeOf n d : Nat) * j := by
    push_cast; ring
  rcases unitsOf_multiple_or_below (binadeOf n d) y with ⟨j, multiple⟩ | ⟨above, below⟩
  · have nearest := rneDiv_nearest n step j
    rw [value, multiple, scaled, scaled, parity]
    refine ⟨nearest.1, fun tie other => nearest.2 tie fun same => other ?_⟩
    exact unitsOf_strictMono.injective (by rw [multiple, value, same])
  · have nearest := (rneDiv_nearest n step (2 ^ 52)).1
    have reached := bottom above
    have farther : d * unitsOf y < d * 2 ^ binadeOf n d * 2 ^ 52 := by
      calc d * unitsOf y < d * (2 ^ 52 * 2 ^ binadeOf n d) := Nat.mul_lt_mul_of_pos_left below hd
        _ = d * 2 ^ binadeOf n d * 2 ^ 52 := by ring
    rw [value, scaled]
    generalize d * 2 ^ binadeOf n d = w at nearest reached farther ⊢
    generalize 2 ^ 52 = q at nearest reached farther
    omega

/-- Narrowing is monotone against the images: a value no larger than the exact one is not overtaken. -/
theorem le_unboundedMag {n d y : Nat} (hd : 0 < d) (le : d * unitsOf y ≤ n) : y ≤ unboundedMag n d := by
  by_contra less
  have value : d * unitsOf (unboundedMag n d) < d * unitsOf y :=
    Nat.mul_lt_mul_of_pos_left (unitsOf_strictMono (by omega)) hd
  have nearest := (unboundedMag_nearest n hd y).1
  omega

theorem unboundedMag_le {n d y : Nat} (hd : 0 < d) (le : n ≤ d * unitsOf y) : unboundedMag n d ≤ y := by
  by_contra more
  have value : d * unitsOf y < d * unitsOf (unboundedMag n d) :=
    Nat.mul_lt_mul_of_pos_left (unitsOf_strictMono (by omega)) hd
  have nearest := (unboundedMag_nearest n hd y).1
  omega

theorem le_roundMag {n d y : Nat} (hd : 0 < d) (finite : y ≤ infBits) (le : d * unitsOf y ≤ n) :
    y ≤ roundMag n d := by
  rw [roundMag_eq_min]
  exact le_min (le_unboundedMag hd le) finite

theorem roundMag_le_of_le {n d y : Nat} (hd : 0 < d) (le : n ≤ d * unitsOf y) : roundMag n d ≤ y :=
  (Nat.min_le_left _ _).trans (unboundedMag_le hd le)

/-- The overflow threshold is half a step of the highest binade above the largest finite value, and half a step below
the value that binade's next image would have. -/
theorem unitsOf_around_overflow :
    unitsOf infBits = (2 ^ 54 - 1) * 2 ^ 2044 + 2 ^ 2044 ∧
    unitsOf (infBits - 1) + 2 ^ 2044 = (2 ^ 54 - 1) * 2 ^ 2044 := by
  have value {m e k : Nat} (image : m = (e + 1) * 2 ^ 52 + k) (low : 2 ^ 52 ≤ k) (high : k ≤ 2 ^ 53) :
      unitsOf m = k * (2 ^ e * 2) := by rw [image, unitsOf_binade (.inr low) high, Nat.pow_succ]
  have top : unitsOf infBits = 2 ^ 53 * (2 ^ 2044 * 2) := value (by decide) (by decide) le_rfl
  have largest : unitsOf (infBits - 1) = (2 ^ 53 - 1) * (2 ^ 2044 * 2) := value (by decide) (by decide) (by decide)
  generalize 2 ^ 2044 = h at top largest ⊢
  constructor <;> omega

/-- The image beyond the largest finite one is chosen from the midpoint of the two on: the largest finite image is
odd, so the tie goes up. -/
theorem infBits_le_unboundedMag_iff (n : Nat) {d : Nat} (hd : 0 < d) :
    infBits ≤ unboundedMag n d ↔ (2 ^ 54 - 1) * 2 ^ 2044 * d ≤ n := by
  obtain ⟨last, infIs, odd⟩ : ∃ last, infBits = last + 1 ∧ last % 2 = 1 := ⟨infBits - 1, by decide, by decide⟩
  have around := unitsOf_around_overflow
  have half : 0 < 2 ^ 2044 := by positivity
  generalize 2 ^ 2044 = h at around half ⊢
  generalize (2 ^ 54 - 1) * h = midpoint at around ⊢
  rw [infIs, Nat.add_sub_cancel] at around
  rw [infIs, Nat.mul_comm]
  have nearest := unboundedMag_nearest n hd
  generalize unboundedMag n d = m at nearest ⊢
  have above : d * unitsOf (last + 1) = d * midpoint + d * h := by rw [around.1, Nat.mul_add]
  have below : d * unitsOf last + d * h = d * midpoint := by rw [← around.2, Nat.mul_add]
  have apart : 0 < d * h := by positivity
  constructor
  · intro reached
    have value := Nat.mul_le_mul_left d (unitsOf_strictMono.monotone reached)
    have nearLast := (nearest last).1
    omega
  · intro beyond
    by_contra finite
    have value := Nat.mul_le_mul_left d (unitsOf_strictMono.monotone (show m ≤ last by omega))
    obtain ⟨nearTop, tie⟩ := nearest (last + 1)
    have even : m % 2 = 0 := tie (by omega) (by omega)
    have chosen : last ≤ m := by
      rw [← unitsOf_strictMono.le_iff_le]
      exact Nat.le_of_mul_le_mul_left (by omega) hd
    omega

/-! ### the two images of a narrowing -/

theorem roundMag_eq_infBits_iff (n : Nat) {d : Nat} (hd : 0 < d) :
    roundMag n d = infBits ↔ (2 ^ 54 - 1) * 2 ^ 2044 * d ≤ n := by
  rw [← infBits_le_unboundedMag_iff n hd, roundMag_eq_min, min_eq_right_iff]

theorem roundMag_eq_unboundedMag {n d : Nat} (finite : roundMag n d < infBits) : roundMag n d = unboundedMag n d := by
  rw [roundMag_eq_min] at *
  exact min_eq_left ((min_lt_iff.mp finite).resolve_right (lt_irrefl _)).le

/-- Scaling both parts of the exact fraction narrows to the same image. -/
theorem roundMag_mul_right (n d : Nat) {k : Nat} (hk : 0 < k) : roundMag (n * k) (d * k) = roundMag n d := by
  unfold roundMag
  simp only [Nat.mul_div_mul_right _ _ hk, Nat.mul_right_comm d k, rneDiv_mul_right _ _ hk]

/-- A narrowed value is a number or an infinity. -/
theorem roundMag_lt (n d : Nat) : roundMag n d < 2 ^ 63 := (roundMag_le n d).trans_lt infBits_lt

end Sys2Proof.F64

namespace Sys2Proof.Proofs

/-- Settles O18: `roundMag` is the nearest of all images where the exponent has no upper end, capped at infinity. -/
theorem narrowingRoundsToNearestEven : Obligations.NarrowingRoundsToNearestEven := by
  unfold Obligations.NarrowingRoundsToNearestEven
  intro n d hd
  refine ⟨F64.roundMag_eq_infBits_iff n hd, fun finite y _ => ?_⟩
  rw [F64.roundMag_eq_unboundedMag finite]
  exact F64.unboundedMag_nearest n hd y

end Sys2Proof.Proofs
end

section
/-! SUPPORT. The exact values of numbers: sign and magnitude, integers, and the nearest integer. -/

namespace Sys2Proof.F64

theorem oneUnits_pos : 0 < oneUnits := by unfold oneUnits; positivity

theorem magBits_lt_of_finite {x : F64} (h : isFinite x = true) : magBits x < infBits := by simpa [isFinite] using h

theorem isFinite_make {neg : Bool} {m : Nat} (h : m < infBits) : isFinite (make neg m) = true := by
  rw [isFinite, magBits_make (h.trans infBits_lt)]
  exact decide_eq_true h

theorem units_make {neg : Bool} {m : Nat} (h : m < 2 ^ 63) : units (make neg m) = unitsOf m := by
  rw [units, magBits_make h]

theorem toInt_make {neg : Bool} {m : Nat} (h : m < 2 ^ 63) :
    toInt (make neg m) = if neg then -(unitsOf m : Int) else (unitsOf m : Int) := by
  rw [toInt, msb_make h, units_make h]

theorem natAbs_toInt (x : F64) : (toInt x).natAbs = units x := by unfold toInt; split <;> omega

theorem units_eq_zero_iff (x : F64) : units x = 0 ↔ magBits x = 0 :=
  unitsOf_strictMono.injective.eq_iff' unitsOf_zero

/-- The sign bit of a nonzero number is its value's sign. -/
theorem msb_eq_decide_neg {x : F64} (nonzero : toInt x ≠ 0) : x.msb = decide (toInt x < 0) := by
  unfold toInt at nonzero ⊢
  cases x.msb
  · simp
  · simp only [if_true, Bool.true_eq, decide_eq_true_eq] at nonzero ⊢
    omega

theorem toInt_neg (x : F64) : toInt (neg x) = -toInt x := by
  simp only [toInt, msb_neg, units, magBits_neg]
  cases x.msb <;> simp

/-! ### integers -/

/-- Every natural number below `2^53` is the value of a finite image. -/
theorem exists_unitsOf_eq_nat {k : Nat} (hk : k < 2 ^ 53) : ∃ y, y < infBits ∧ unitsOf y = k * oneUnits :=
  exists_unitsOf_eq hk (by decide)

/-- R17: `i2f` is exact below `2^53`: nothing is rounded away. -/
theorem i2f_exact {n : Int} (small : n.natAbs < 2 ^ 53) :
    isFinite (i2f n) = true ∧ toInt (i2f n) = n * oneUnits := by
  obtain ⟨y, finite, value⟩ := exists_unitsOf_eq_nat small
  have image : i2f n = make (decide (n < 0)) y := by rw [i2f, ← value, roundMag_unitsOf finite]
  rw [image]
  refine ⟨isFinite_make finite, ?_⟩
  rw [toInt_make (finite.trans infBits_lt), value]
  generalize oneUnits = one
  rcases Int.lt_or_le n 0 with negative | nonneg
  · simp [negative, abs_of_neg]
  · simp [nonneg.not_gt, abs_of_nonneg nonneg]

/-! ### the nearest integer -/

theorem rne_eq_some {x : F64} (finite : isFinite x = true) (inRange : units x < 2 ^ 31 * oneUnits) :
    rne x = some (if x.msb then -(rneDiv (units x) oneUnits : Int) else (rneDiv (units x) oneUnits : Int)) :=
  if_pos ⟨finite, inRange⟩

theorem rne_eq_none {x : F64} (outside : ¬ (isFinite x = true ∧ units x < 2 ^ 31 * oneUnits)) : rne x = none :=
  if_neg outside

/-- R16: where `rne` is defined it is within half of the value, and even where it is exactly half away. -/
theorem rne_within_half {x : F64} (finite : isFinite x = true) (inRange : units x < 2 ^ 31 * oneUnits) :
    ∃ k : Int, rne x = some k ∧ 2 * (toInt x - k * oneUnits).natAbs ≤ oneUnits ∧
      (2 * (toInt x - k * oneUnits).natAbs = oneUnits → k % 2 = 0) := by
  obtain ⟨close, tie⟩ := rneDiv_within_half (units x) oneUnits_pos
  refine ⟨_, rne_eq_some finite inRange, ?_⟩
  unfold toInt
  rw [Int.mul_comm] at close tie
  generalize oneUnits = one at *
  cases x.msb
  · simp only [Bool.false_eq_true, if_false]
    omega
  · simp only [if_true]
    rw [Int.neg_mul]
    omega

end Sys2Proof.F64

namespace Sys2Proof.Proofs

/-- Settles O16: an integer below `2^53` is a finite image's value, which narrowing keeps. -/
theorem integersConvertExactly : Obligations.IntegersConvertExactly := by
  unfold Obligations.IntegersConvertExactly
  exact fun _ small => F64.i2f_exact small

/-- Settles O17: `rne` rounds the magnitude by `rneDiv` and keeps the sign. -/
theorem rneIsNearestTiesToEven : Obligations.RneIsNearestTiesToEven := by
  unfold Obligations.RneIsNearestTiesToEven
  intro x
  rw [F64.natAbs_toInt]
  exact ⟨fun finite inRange => F64.rne_within_half finite inRange, F64.rne_eq_none⟩

end Sys2Proof.Proofs
end

section
/-! SUPPORT. Comparisons: images of one sign are in the order of their values. -/

namespace Sys2Proof.F64

/-- The order of the images on the line is the order of their values (R14). -/
theorem lineKey_lt_iff (a b : F64) : lineKey a < lineKey b ↔ toInt a < toInt b := by
  have below : units a < units b ↔ magBits a < magBits b := unitsOf_strictMono.lt_iff_lt
  have above : units b < units a ↔ magBits b < magBits a := unitsOf_strictMono.lt_iff_lt
  have zeroA := units_eq_zero_iff a
  have zeroB := units_eq_zero_iff b
  unfold lineKey toInt
  cases a.msb <;> cases b.msb <;> simp only [Bool.false_eq_true, if_false, if_true] <;> omega

theorem lineKey_le_iff (a b : F64) : lineKey a ≤ lineKey b ↔ toInt a ≤ toInt b := by
  simpa only [not_lt] using (lineKey_lt_iff b a).not

theorem lt_iff_lineKey {a b : F64} (ha : isNaN a = false) (hb : isNaN b = false) :
    lt a b = true ↔ lineKey a < lineKey b := by simp [lt, ha, hb]

theorem le_iff_lineKey {a b : F64} (ha : isNaN a = false) (hb : isNaN b = false) :
    le a b = true ↔ lineKey a ≤ lineKey b := by simp [le, ha, hb]

theorem lt_of_nan {a b : F64} (h : isNaN a = true ∨ isNaN b = true) : lt a b = false := by
  rcases h with h | h <;> simp [lt, h]

theorem le_of_nan {a b : F64} (h : isNaN a = true ∨ isNaN b = true) : le a b = false := by
  rcases h with h | h <;> simp [le, h]

theorem magBits_of_inf {x : F64} (h : isInf x = true) : magBits x = infBits := by simpa [isInf] using h

theorem not_nan_of_inf {x : F64} (h : isInf x = true) : isNaN x = false := by
  simp [isNaN, magBits_of_inf h]

/-- A value that is no NaN has a magnitude image up to infinity's, which the infinities alone have. -/
theorem magBits_le_infBits {x : F64} (h : isNaN x = false) :
    magBits x ≤ infBits ∧ (magBits x = infBits ↔ isInf x = true) := by
  simpa [isNaN, isInf] using h

/-- The positive infinity ends the line. -/
theorem lineKey_le_infBits {x : F64} (h : isNaN x = false) :
    lineKey x ≤ infBits ∧ (lineKey x = infBits ↔ isInf x = true ∧ x.msb = false) := by
  obtain ⟨le, eq⟩ := magBits_le_infBits h
  have pos : 0 < infBits := by decide
  rw [← eq]
  unfold lineKey
  generalize infBits = inf at *
  cases x.msb <;> simp <;> omega

/-- The negative infinity starts the line. -/
theorem neg_infBits_le_lineKey {x : F64} (h : isNaN x = false) :
    -(infBits : Int) ≤ lineKey x ∧ (lineKey x = -(infBits : Int) ↔ isInf x = true ∧ x.msb = true) := by
  obtain ⟨le, eq⟩ := magBits_le_infBits h
  have pos : 0 < infBits := by decide
  rw [← eq]
  unfold lineKey
  generalize infBits = inf at *
  cases x.msb <;> simp <;> omega

theorem lineKey_of_inf {x : F64} (h : isInf x = true) :
    lineKey x = if x.msb then -(infBits : Int) else (infBits : Int) := by
  rw [lineKey, magBits_of_inf h]

/-- Where an infinity on the left of a comparison stands against a value. -/
theorem lineKey_inf_left {a b : F64} (ha : isInf a = true) (hb : isNaN b = false) :
    (lineKey a < lineKey b ↔ a.msb = true ∧ ¬ (isInf b = true ∧ b.msb = true)) ∧
    (lineKey a ≤ lineKey b ↔ a.msb = true ∨ (isInf b = true ∧ b.msb = false)) := by
  obtain ⟨le, atTop⟩ := lineKey_le_infBits hb
  obtain ⟨ge, atBottom⟩ := neg_infBits_le_lineKey hb
  rw [lineKey_of_inf ha, ← atTop, ← atBottom]
  cases a.msb <;> simp <;> omega

/-- Where an infinity on the right of a comparison stands against a value. -/
theorem lineKey_inf_right {a b : F64} (ha : isNaN a = false) (hb : isInf b = true) :
    (lineKey a < lineKey b ↔ b.msb = false ∧ ¬ (isInf a = true ∧ a.msb = false)) ∧
    (lineKey a ≤ lineKey b ↔ b.msb = false ∨ (isInf a = true ∧ a.msb = true)) := by
  obtain ⟨le, atTop⟩ := lineKey_le_infBits ha
  obtain ⟨ge, atBottom⟩ := neg_infBits_le_lineKey ha
  rw [lineKey_of_inf hb, ← atTop, ← atBottom]
  cases b.msb <;> simp <;> omega

end Sys2Proof.F64

namespace Sys2Proof.Proofs

/-- Settles O20: both comparisons order the line of images, whose ends are the infinities. -/
theorem comparisonsCompareValues : Obligations.ComparisonsCompareValues := by
  unfold Obligations.ComparisonsCompareValues
  intro a b
  refine ⟨fun finA finB => ?_, fun infA numB => ?_, fun numA infB => ?_, fun nan => ?_⟩
  · have numA := F64.not_nan_of_finite finA
    have numB := F64.not_nan_of_finite finB
    rw [F64.lt_iff_lineKey numA numB, F64.le_iff_lineKey numA numB]
    exact ⟨F64.lineKey_lt_iff a b, F64.lineKey_le_iff a b⟩
  · rw [F64.lt_iff_lineKey (F64.not_nan_of_inf infA) numB, F64.le_iff_lineKey (F64.not_nan_of_inf infA) numB]
    exact F64.lineKey_inf_left infA numB
  · rw [F64.lt_iff_lineKey numA (F64.not_nan_of_inf infB), F64.le_iff_lineKey numA (F64.not_nan_of_inf infB)]
    exact F64.lineKey_inf_right numA infB
  · exact ⟨F64.lt_of_nan nan, F64.le_of_nan nan⟩

end Sys2Proof.Proofs
end

section
/-! SUPPORT. The operations, one equation for each class of operands, and where their results are NaNs. -/

namespace Sys2Proof.F64

/-! ### classes by name -/

/-- The class of a value, with what it is not: the cases of `classes` by name. -/
inductive Kind (x : F64) : Prop where
  | finite (is : isFinite x = true) (notInf : isInf x = false) (number : isNaN x = false)
  | inf (is : isInf x = true) (number : isNaN x = false)
  | nan (is : isNaN x = true)

theorem kind (x : F64) : Kind x := by
  rcases classes x with ⟨is, notInf, number⟩ | ⟨-, is, number⟩ | ⟨-, -, is⟩
  · exact .finite is notInf number
  · exact .inf is number
  · exact .nan is

/-! ### results of `make` -/

theorem isInf_make_infBits (neg : Bool) : isInf (make neg infBits) = true := by
  rw [isInf, magBits_make infBits_lt]; exact decide_eq_true rfl

theorem isNaN_make {neg : Bool} {m : Nat} (h : m ≤ infBits) : isNaN (make neg m) = false := by
  rw [isNaN, magBits_make (h.trans_lt infBits_lt)]; exact decide_eq_false (not_lt.mpr h)

/-- An image of the right sign and magnitude is the result. -/
theorem make_eq {z : F64} {neg : Bool} {m : Nat} (sign : z.msb = neg) (mag : magBits z = m) : make neg m = z := by
  rw [← sign, ← mag, make_self]

theorem magBits_ne_zero_of_inf {x : F64} (h : isInf x = true) : magBits x ≠ 0 := by
  rw [magBits_of_inf h]; decide

/-! ### sums -/

theorem add_of_nan (nan : F64) {a b : F64} (h : isNaN a = true ∨ isNaN b = true) : add nan a b = asNaN nan := by
  rcases h with h | h <;> simp [add, h]

theorem add_inf_finite (nan : F64) {a b : F64} (ha : isInf a = true) (hb : isFinite b = true) : add nan a b = a := by
  simp [add, ha, not_nan_of_inf ha, not_nan_of_finite hb, not_inf_of_finite hb]

theorem add_finite_inf (nan : F64) {a b : F64} (ha : isFinite a = true) (hb : isInf b = true) : add nan a b = b := by
  simp [add, hb, not_nan_of_inf hb, not_nan_of_finite ha, not_inf_of_finite ha]

theorem add_inf_inf_same (nan : F64) {a b : F64} (ha : isInf a = true) (hb : isInf b = true) (same : a.msb = b.msb) :
    add nan a b = a := by
  simp [add, ha, hb, not_nan_of_inf ha, not_nan_of_inf hb, same]

theorem add_inf_inf_opposite (nan : F64) {a b : F64} (ha : isInf a = true) (hb : isInf b = true)
    (opposite : a.msb ≠ b.msb) : add nan a b = asNaN nan := by
  simp [add, ha, hb, not_nan_of_inf ha, not_nan_of_inf hb, opposite]

theorem add_finite (nan : F64) {a b : F64} (ha : isFinite a = true) (hb : isFinite b = true) :
    add nan a b = if toInt a + toInt b = 0 then make (a.msb && b.msb) 0
      else make (decide (toInt a + toInt b < 0)) (roundMag (toInt a + toInt b).natAbs 1) := by
  simp [add, not_nan_of_finite ha, not_nan_of_finite hb, not_inf_of_finite ha, not_inf_of_finite hb]

theorem add_eq_of_exact (nan : F64) {a b z : F64} (ha : isFinite a = true) (hb : isFinite b = true)
    (hz : isFinite z = true) (exactly : toInt a + toInt b = toInt z) (nonzero : toInt z ≠ 0) : add nan a b = z := by
  rw [add_finite nan ha hb, exactly, if_neg nonzero, natAbs_toInt, roundMag_units hz]
  exact make_eq (msb_eq_decide_neg nonzero) rfl

theorem sub_same (nan : F64) {a : F64} (ha : isFinite a = true) : sub nan a a = zero := by
  rw [sub, add_finite nan ha (by simpa using ha), toInt_neg, msb_neg, if_pos (by omega), Bool.and_not_self]
  rfl

/-! ### products -/

theorem mul_of_nan (nan : F64) {a b : F64} (h : isNaN a = true ∨ isNaN b = true) : mul nan a b = asNaN nan := by
  rcases h with h | h <;> simp [mul, h]

theorem mul_swap (nan a b : F64) : mul nan a b = mul nan b a := by
  simp only [mul, Bool.or_comm, or_comm, Nat.mul_comm, bne_comm]

theorem mul_inf (nan : F64) {a b : F64} (ha : isInf a = true) (hb : isNaN b = false) (nonzero : magBits b ≠ 0) :
    mul nan a b = make (a.msb != b.msb) infBits := by
  simp [mul, ha, hb, not_nan_of_inf ha, magBits_ne_zero_of_inf ha, nonzero]

theorem mul_inf_zero (nan : F64) {a b : F64} (ha : isInf a = true) (zero : magBits b = 0) :
    mul nan a b = asNaN nan := by
  simp [mul, ha, zero]

theorem mul_finite (nan : F64) {a b : F64} (ha : isFinite a = true) (hb : isFinite b = true) :
    mul nan a b = make (a.msb != b.msb) (roundMag (units a * units b) oneUnits) := by
  simp [mul, not_nan_of_finite ha, not_nan_of_finite hb, not_inf_of_finite ha, not_inf_of_finite hb]

theorem mul_eq_of_exact (nan : F64) {a b z : F64} (ha : isFinite a = true) (hb : isFinite b = true)
    (hz : isFinite z = true) (exactly : units a * units b = units z * oneUnits) (sign : z.msb = (a.msb != b.msb)) :
    mul nan a b = z := by
  rw [mul_finite nan ha hb, exactly]
  refine make_eq sign ?_
  rw [← roundMag_units hz, ← roundMag_mul_right _ 1 oneUnits_pos, Nat.one_mul]

/-! ### quotients -/

theorem div_of_nan (nan : F64) {a b : F64} (h : isNaN a = true ∨ isNaN b = true) : div nan a b = asNaN nan := by
  rcases h with h | h <;> simp [div, h]

theorem div_inf_inf (nan : F64) {a b : F64} (ha : isInf a = true) (hb : isInf b = true) : div nan a b = asNaN nan := by
  simp [div, ha, hb]

theorem div_inf_finite (nan : F64) {a b : F64} (ha : isInf a = true) (hb : isFinite b = true) :
    div nan a b = make (a.msb != b.msb) infBits := by
  simp [div, ha, not_nan_of_inf ha, not_nan_of_finite hb, not_inf_of_finite hb]

theorem div_finite_inf (nan : F64) {a b : F64} (ha : isFinite a = true) (hb : isInf b = true) :
    div nan a b = make (a.msb != b.msb) 0 := by
  simp [div, hb, not_nan_of_inf hb, not_nan_of_finite ha, not_inf_of_finite ha]

theorem div_zero_zero (nan : F64) {a b : F64} (za : magBits a = 0) (zb : magBits b = 0) : div nan a b = asNaN nan := by
  have pos : 0 ≠ infBits := by decide
  simp [div, isInf, za, zb, pos]

theorem div_by_zero (nan : F64) {a b : F64} (ha : isFinite a = true) (hb : isFinite b = true) (zb : magBits b = 0)
    (na : magBits a ≠ 0) : div nan a b = make (a.msb != b.msb) infBits := by
  simp [div, not_nan_of_finite ha, not_nan_of_finite hb, not_inf_of_finite ha, not_inf_of_finite hb, zb, na]

theorem div_finite (nan : F64) {a b : F64} (ha : isFinite a = true) (hb : isFinite b = true) (nb : magBits b ≠ 0) :
    div nan a b = make (a.msb != b.msb) (roundMag (units a * oneUnits) (units b)) := by
  simp [div, not_nan_of_finite ha, not_nan_of_finite hb, not_inf_of_finite ha, not_inf_of_finite hb, nb]

theorem div_eq_of_exact (nan : F64) {a b z : F64} (ha : isFinite a = true) (hb : isFinite b = true)
    (hz : isFinite z = true) (nb : magBits b ≠ 0) (exactly : units a * oneUnits = units z * units b)
    (sign : z.msb = (a.msb != b.msb)) : div nan a b = z := by
  have pos : 0 < units b := Nat.pos_of_ne_zero fun zero => nb ((units_eq_zero_iff b).mp zero)
  rw [div_finite nan ha hb nb, exactly]
  refine make_eq sign ?_
  rw [← roundMag_units hz, ← roundMag_mul_right _ 1 pos, Nat.one_mul]

/-! ### where the free bits show -/

/-- An operation's result, as a function of the bits it is offered for a NaN: those bits as a NaN where the operation
is `invalid`, and elsewhere one fixed value that is no NaN. -/
def FreeExactlyWhere (invalid : Prop) (result : F64 → F64) : Prop :=
  (invalid ∧ ∀ nan, result nan = asNaN nan) ∨ (¬ invalid ∧ ∃ r, isNaN r = false ∧ ∀ nan, result nan = r)

theorem FreeExactlyWhere.free {invalid : Prop} {result : F64 → F64} (yes : invalid)
    (free : ∀ nan, result nan = asNaN nan) : FreeExactlyWhere invalid result := .inl ⟨yes, free⟩

theorem FreeExactlyWhere.fixed {invalid : Prop} {result : F64 → F64} {r : F64} (no : ¬ invalid)
    (number : isNaN r = false) (fixed : ∀ nan, result nan = r) : FreeExactlyWhere invalid result :=
  .inr ⟨no, r, number, fixed⟩

theorem FreeExactlyWhere.eq_or_nan {invalid : Prop} {result : F64 → F64} (h : FreeExactlyWhere invalid result)
    (n₁ n₂ : F64) : result n₁ = result n₂ ∨ isNaN (result n₁) = true ∧ isNaN (result n₂) = true := by
  rcases h with ⟨-, free⟩ | ⟨-, r, -, fixed⟩
  · exact .inr (by simp [free])
  · exact .inl (by rw [fixed, fixed])

theorem FreeExactlyWhere.isNaN_iff {invalid : Prop} {result : F64 → F64} (h : FreeExactlyWhere invalid result)
    (nan : F64) : isNaN (result nan) = true ↔ invalid := by
  rcases h with ⟨yes, free⟩ | ⟨no, r, number, fixed⟩
  · simp [free, yes]
  · simp [fixed, number, no]

theorem add_freeExactlyWhere (a b : F64) :
    FreeExactlyWhere (isNaN a = true ∨ isNaN b = true ∨ (isInf a = true ∧ isInf b = true ∧ a.msb ≠ b.msb))
      (add · a b) := by
  cases kind a with
  | nan nanA => exact .free (.inl nanA) fun nan => add_of_nan nan (.inl nanA)
  | finite finA infA numA =>
    cases kind b with
    | nan nanB => exact .free (.inr (.inl nanB)) fun nan => add_of_nan nan (.inr nanB)
    | finite finB _ numB =>
      refine .fixed (by simp [numA, numB, infA]) ?_ fun nan => add_finite nan finA finB
      split
      · exact isNaN_make (Nat.zero_le _)
      · exact isNaN_make (roundMag_le _ _)
    | inf infB numB => exact .fixed (by simp [numA, numB, infA]) numB fun nan => add_finite_inf nan finA infB
  | inf infA numA =>
    cases kind b with
    | nan nanB => exact .free (.inr (.inl nanB)) fun nan => add_of_nan nan (.inr nanB)
    | finite finB infB numB => exact .fixed (by simp [numA, numB, infB]) numA fun nan => add_inf_finite nan infA finB
    | inf infB numB =>
      by_cases same : a.msb = b.msb
      · exact .fixed (by simp [numA, numB, same]) numA fun nan => add_inf_inf_same nan infA infB same
      · exact .free (.inr (.inr ⟨infA, infB, same⟩)) fun nan => add_inf_inf_opposite nan infA infB same

theorem sub_freeExactlyWhere (a b : F64) :
    FreeExactlyWhere (isNaN a = true ∨ isNaN b = true ∨ (isInf a = true ∧ isInf b = true ∧ a.msb = b.msb))
      (sub · a b) := by
  simpa [sub, msb_neg] using add_freeExactlyWhere a (neg b)

/-- An infinity times zero is invalid, and times any other value but a NaN it is fixed. -/
theorem mul_inf_freeExactlyWhere {a b : F64} (infA : isInf a = true) (numB : isNaN b = false) :
    FreeExactlyWhere (magBits b = 0) (mul · a b) := by
  by_cases zero : magBits b = 0
  · exact .free zero fun nan => mul_inf_zero nan infA zero
  · exact .fixed zero (isNaN_make le_rfl) fun nan => mul_inf nan infA numB zero

theorem mul_freeExactlyWhere (a b : F64) :
    FreeExactlyWhere (isNaN a = true ∨ isNaN b = true ∨ (isInf a = true ∧ magBits b = 0) ∨
      (magBits a = 0 ∧ isInf b = true)) (mul · a b) := by
  cases kind a with
  | nan nanA => exact .free (.inl nanA) fun nan => mul_of_nan nan (.inl nanA)
  | finite finA infA numA =>
    cases kind b with
    | nan nanB => exact .free (.inr (.inl nanB)) fun nan => mul_of_nan nan (.inr nanB)
    | finite finB infB numB =>
      exact .fixed (by simp [numA, numB, infA, infB]) (isNaN_make (roundMag_le _ _))
        fun nan => mul_finite nan finA finB
    | inf infB numB =>
      simpa [numA, numB, infA, infB, mul_swap _ a b] using mul_inf_freeExactlyWhere infB numA
  | inf infA numA =>
    have nonzero := magBits_ne_zero_of_inf infA
    cases kind b with
    | nan nanB => exact .free (.inr (.inl nanB)) fun nan => mul_of_nan nan (.inr nanB)
    | finite _ _ numB | inf _ numB =>
      simpa [numA, numB, infA, nonzero] using mul_inf_freeExactlyWhere infA numB

theorem div_freeExactlyWhere (a b : F64) :
    FreeExactlyWhere (isNaN a = true ∨ isNaN b = true ∨ (isInf a = true ∧ isInf b = true) ∨
      (magBits a = 0 ∧ magBits b = 0)) (div · a b) := by
  cases kind a with
  | nan nanA => exact .free (.inl nanA) fun nan => div_of_nan nan (.inl nanA)
  | finite finA infA numA =>
    cases kind b with
    | nan nanB => exact .free (.inr (.inl nanB)) fun nan => div_of_nan nan (.inr nanB)
    | finite finB _ numB =>
      by_cases zeroB : magBits b = 0
      · by_cases zeroA : magBits a = 0
        · exact .free (.inr (.inr (.inr ⟨zeroA, zeroB⟩))) fun nan => div_zero_zero nan zeroA zeroB
        · exact .fixed (by simp [numA, numB, infA, zeroA]) (isNaN_make le_rfl)
            fun nan => div_by_zero nan finA finB zeroB zeroA
      · exact .fixed (by simp [numA, numB, infA, zeroB]) (isNaN_make (roundMag_le _ _))
          fun nan => div_finite nan finA finB zeroB
    | inf infB numB =>
      exact .fixed (by simp [numA, numB, infA, magBits_ne_zero_of_inf infB]) (isNaN_make (Nat.zero_le _))
        fun nan => div_finite_inf nan finA infB
  | inf infA numA =>
    cases kind b with
    | nan nanB => exact .free (.inr (.inl nanB)) fun nan => div_of_nan nan (.inr nanB)
    | finite finB infB numB =>
      exact .fixed (by simp [numA, numB, infB, magBits_ne_zero_of_inf infA]) (isNaN_make le_rfl)
        fun nan => div_inf_finite nan infA finB
    | inf infB _ => exact .free (.inr (.inr (.inl ⟨infA, infB⟩))) fun nan => div_inf_inf nan infA infB

end Sys2Proof.F64

namespace Sys2Proof.Proofs

/-- Settles O19: one equation for each class of operands, and an exact result is an image that narrows to itself. -/
theorem representableResultsAreExact : Obligations.RepresentableResultsAreExact := by
  unfold Obligations.RepresentableResultsAreExact
  intro nan a b
  refine ⟨fun finA finB => ⟨?_, ?_, rfl, F64.toInt_neg b, F64.sub_same nan finA, ?_, ?_, ?_, ?_, ?_⟩,
    fun infA finB => ⟨?_, ?_, ?_, ?_, ?_, ?_, ?_, ?_⟩, fun infA infB same => F64.add_inf_inf_same nan infA infB same,
    fun infA numB nonzero => ⟨?_, ?_, F64.mul_swap nan b a⟩⟩
  · intro nonzero
    rw [F64.add_finite nan finA finB, if_neg nonzero, F64.magBits_make (F64.roundMag_lt _ _),
      F64.msb_make (F64.roundMag_lt _ _)]
    exact ⟨rfl, decide_eq_true_iff⟩
  · intro zero
    rw [F64.add_finite nan finA finB, if_pos zero]
    exact ⟨F64.magBits_make (by decide), F64.msb_make (by decide)⟩
  · rw [F64.mul_finite nan finA finB, F64.magBits_make (F64.roundMag_lt _ _)]
  · rw [F64.mul_finite nan finA finB, F64.msb_make (F64.roundMag_lt _ _)]
  · intro nonzero
    rw [F64.div_finite nan finA finB nonzero]
    exact ⟨F64.magBits_make (F64.roundMag_lt _ _), F64.msb_make (F64.roundMag_lt _ _)⟩
  · intro zeroB nonzeroA
    rw [F64.div_by_zero nan finA finB zeroB nonzeroA]
    exact ⟨F64.isInf_make_infBits _, F64.msb_make F64.infBits_lt⟩
  · exact fun z finZ => ⟨F64.add_eq_of_exact nan finA finB finZ, F64.mul_eq_of_exact nan finA finB finZ,
      F64.div_eq_of_exact nan finA finB finZ⟩
  · exact F64.add_inf_finite nan infA finB
  · exact F64.add_finite_inf nan finB infA
  · exact F64.add_inf_finite nan infA (by simpa using finB)
  · exact F64.add_finite_inf nan finB (by simpa using infA)
  · rw [F64.div_inf_finite nan infA finB, F64.isInf_make_infBits]
  · rw [F64.div_inf_finite nan infA finB, F64.msb_make F64.infBits_lt]
  · rw [F64.div_finite_inf nan finB infA, F64.magBits_make (by decide)]
  · rw [F64.div_finite_inf nan finB infA, F64.msb_make (by decide)]
  · rw [F64.mul_inf nan infA numB nonzero, F64.isInf_make_infBits]
  · rw [F64.mul_inf nan infA numB nonzero, F64.msb_make F64.infBits_lt]

/-- Settles O21: each operation's result is the free NaN exactly where the operation is invalid. -/
theorem freeNanBitsShowOnlyInNans : Obligations.FreeNanBitsShowOnlyInNans := by
  unfold Obligations.FreeNanBitsShowOnlyInNans
  intro n₁ n₂ a b
  have sum := F64.add_freeExactlyWhere a b
  have difference := F64.sub_freeExactlyWhere a b
  have product := F64.mul_freeExactlyWhere a b
  have quotient := F64.div_freeExactlyWhere a b
  exact ⟨sum.eq_or_nan n₁ n₂, difference.eq_or_nan n₁ n₂, product.eq_or_nan n₁ n₂, quotient.eq_or_nan n₁ n₂,
    sum.isNaN_iff n₁, difference.isNaN_iff n₁, product.isNaN_iff n₁, quotient.isNaN_iff n₁⟩

end Sys2Proof.Proofs
end

section
/-! SUPPORT. Rounding is monotone: a bracket of format values, or of integers, that holds the exact result holds the
rounded one. -/

namespace Sys2Proof.F64

theorem natAbs_lineKey (x : F64) : (lineKey x).natAbs = magBits x := by unfold lineKey; split <;> omega

theorem finite_of_lineKey_between {x lo hi : F64} (finLo : isFinite lo = true) (finHi : isFinite hi = true)
    (ge : lineKey lo ≤ lineKey x) (le : lineKey x ≤ lineKey hi) : isFinite x = true := by
  have boundLo := magBits_lt_of_finite finLo
  have boundHi := magBits_lt_of_finite finHi
  refine decide_eq_true ?_
  rw [← natAbs_lineKey] at boundLo boundHi ⊢
  generalize infBits = inf at boundLo boundHi ⊢
  omega

/-- A value that both comparisons place between two numbers is a number between them. -/
theorem between_of_le {x lo hi : F64} (finLo : isFinite lo = true) (finHi : isFinite hi = true)
    (ge : F64.le lo x = true) (le : F64.le x hi = true) :
    isFinite x = true ∧ toInt lo ≤ toInt x ∧ toInt x ≤ toInt hi := by
  have number : isNaN x = false := by
    by_contra nan
    rw [le_of_nan (.inr (by simpa using nan))] at ge
    contradiction
  rw [le_iff_lineKey (not_nan_of_finite finLo) number] at ge
  rw [le_iff_lineKey number (not_nan_of_finite finHi)] at le
  exact ⟨finite_of_lineKey_between finLo finHi ge le, (lineKey_le_iff lo x).mp ge, (lineKey_le_iff x hi).mp le⟩

/-- A positive sum between two numbers of the format is narrowed to a number between them. -/
theorem add_between (nan : F64) {a b lo hi : F64} (ha : isFinite a = true) (hb : isFinite b = true)
    (finLo : isFinite lo = true) (finHi : isFinite hi = true) (pos : 0 < toInt lo)
    (ge : toInt lo ≤ toInt a + toInt b) (le : toInt a + toInt b ≤ toInt hi) :
    isFinite (add nan a b) = true ∧ toInt lo ≤ toInt (add nan a b) ∧ toInt (add nan a b) ≤ toInt hi := by
  have absLo := natAbs_toInt lo
  have absHi := natAbs_toInt hi
  rw [add_finite nan ha hb, if_neg (by omega), decide_eq_false (by omega)]
  generalize toInt a + toInt b = sum at *
  have lower : magBits lo ≤ roundMag sum.natAbs 1 :=
    le_roundMag Nat.one_pos (magBits_lt_of_finite finLo).le (by rw [Nat.one_mul]; change units lo ≤ _; omega)
  have upper : roundMag sum.natAbs 1 ≤ magBits hi :=
    roundMag_le_of_le Nat.one_pos (by rw [Nat.one_mul]; change _ ≤ units hi; omega)
  have finite := upper.trans_lt (magBits_lt_of_finite finHi)
  have valueLo : units lo ≤ _ := unitsOf_strictMono.monotone lower
  have valueHi : _ ≤ units hi := unitsOf_strictMono.monotone upper
  refine ⟨isFinite_make finite, ?_⟩
  rw [toInt_make (finite.trans infBits_lt), if_neg Bool.false_ne_true]
  omega

/-- A number between two nonnegative integers that a signed 32-bit register holds has its nearest integer between
them. -/
theorem rne_between {x : F64} {lo hi : Nat} (finite : isFinite x = true) (small : hi < 2 ^ 31)
    (ge : (lo * oneUnits : Int) ≤ toInt x) (le : toInt x ≤ (hi * oneUnits : Int)) :
    ∃ k : Int, rne x = some k ∧ (lo : Int) ≤ k ∧ k ≤ hi := by
  have one := oneUnits_pos
  have inRange : units x < 2 ^ 31 * oneUnits := by
    rw [← natAbs_toInt]
    have nonneg : (0 : Int) ≤ lo * oneUnits := Int.mul_nonneg (Int.natCast_nonneg _) (Int.natCast_nonneg _)
    have bound := Nat.mul_lt_mul_of_pos_right small one
    omega
  obtain ⟨k, defined, close, -⟩ := rne_within_half finite inRange
  refine ⟨k, defined, ?_, ?_⟩
  · by_contra below
    have := Int.mul_le_mul_of_nonneg_right (show k + 1 ≤ lo by omega) (Int.natCast_nonneg oneUnits)
    rw [Int.add_mul] at this
    omega
  · by_contra above
    have := Int.mul_le_mul_of_nonneg_right (show (hi : Int) + 1 ≤ k by omega) (Int.natCast_nonneg oneUnits)
    rw [Int.add_mul] at this
    omega

theorem toInt_half_bounds : 0 ≤ toInt half ∧ toInt half ≤ oneUnits := by
  have bound {e f : Nat} (image : magBits half = e * 2 ^ 52 + 2 ^ 52) (fits : 52 + e ≤ f) : units half ≤ 2 ^ f := by
    rw [units, image, unitsOf_binade (.inr le_rfl) (by decide), ← Nat.pow_add]
    exact Nat.pow_le_pow_right Nat.two_pos fits
  have le : units half ≤ oneUnits := bound (e := 1021) (f := 1074) (by decide) (by decide)
  rw [toInt, if_neg (by decide)]
  omega

theorem isFinite_half : isFinite half = true := by decide

end Sys2Proof.F64

namespace Sys2Proof.Machine

/-- A lag in range is a number, and with the filter delay it lies in the legal offsets, a whole sample below their
upper end (R9). -/
theorem delay_of_lagInRange {c : Config} {lag : F64} (legal : c.lagsOk) (inRange : lagInRange c lag = true) :
    F64.isFinite lag = true ∧
    (c.lagOffsetMin * F64.oneUnits : Int) ≤ F64.toInt lag + F64.toInt c.filtDelay ∧
    F64.toInt lag + F64.toInt c.filtDelay + F64.oneUnits ≤ (c.lagOffsetMax * F64.oneUnits : Int) := by
  obtain ⟨finMin, finMax, -, low, high⟩ := legal
  obtain ⟨ge, le⟩ := Bool.and_eq_true_iff.mp inRange
  obtain ⟨finLag, lower, upper⟩ := F64.between_of_le finMin finMax ge le
  exact ⟨finLag, by omega, by omega⟩

/-- A delay in the legal offsets, a whole sample below their upper end, rounds to one of them: neither narrowing of
`t = lag + FILT_DELAY` and `t + 0.5` leaves the range (R151). -/
theorem lagOffsetOf_delaySum_between (nan : Draws) {c : Config} (m n : Nat) {lag : F64} (pos : 0 < c.lagOffsetMin)
    (ordered : c.lagOffsetMin ≤ c.lagOffsetMax) (small : c.lagOffsetMax < 2 ^ 31)
    (finLag : F64.isFinite lag = true) (finDelay : F64.isFinite c.filtDelay = true)
    (low : (c.lagOffsetMin * F64.oneUnits : Int) ≤ F64.toInt lag + F64.toInt c.filtDelay)
    (high : F64.toInt lag + F64.toInt c.filtDelay + F64.oneUnits ≤ (c.lagOffsetMax * F64.oneUnits : Int)) :
    ∃ L, lagOffsetOf nan m n (delaySum nan c m n lag) = some L ∧ (c.lagOffsetMin : Int) ≤ L ∧ L ≤ c.lagOffsetMax := by
  obtain ⟨finLow, lowIs⟩ := F64.i2f_exact (n := c.lagOffsetMin) (by omega)
  obtain ⟨finTop, topIs⟩ := F64.i2f_exact (n := c.lagOffsetMax) (by omega)
  obtain ⟨finBelow, belowIs⟩ := F64.i2f_exact (n := c.lagOffsetMax - 1) (by omega)
  obtain ⟨halfNonneg, halfLe⟩ := F64.toInt_half_bounds
  have lowPos : 0 < F64.toInt (F64.i2f c.lagOffsetMin) := by
    rw [lowIs]
    exact_mod_cast Nat.mul_pos pos F64.oneUnits_pos
  rw [Int.sub_mul, Int.one_mul] at belowIs
  obtain ⟨finT, lowerT, upperT⟩ := F64.add_between (nan ⟨.delaySum, m, n, 0⟩) finLag finDelay finLow finBelow lowPos
    (by omega) (by omega)
  obtain ⟨finU, lowerU, upperU⟩ := F64.add_between (nan ⟨.halfSum, m, n, 0⟩) finT F64.isFinite_half finLow finTop
    lowPos (by omega) (by omega)
  exact F64.rne_between finU small (lowIs ▸ lowerU) (topIs ▸ upperU)

end Sys2Proof.Machine

namespace Sys2Proof.Proofs

open Machine in
/-- Settles O34: R9's margins put the delay in the legal offsets, and the roundings of R151 are monotone. -/
theorem inRangeLagsHaveLegalOffsets : Obligations.InRangeLagsHaveLegalOffsets := by
  unfold Obligations.InRangeLagsHaveLegalOffsets
  intro nan c m n lag ⟨_, _, ⟨taps, ordered, fits⟩, lagsOk, _, sizes, _⟩ inRange
  obtain ⟨finLag, low, high⟩ := delay_of_lagInRange lagsOk inRange
  obtain ⟨-, -, finDelay, -, -⟩ := lagsOk
  have pos : 0 < c.lagOffsetMin := (show 0 < interpTaps by decide).trans_le taps
  have small : c.lagOffsetMax < 2 ^ 31 :=
    calc c.lagOffsetMax ≤ c.histLen := fits
      _ ≤ c.wbufLen := (Nat.le_add_right _ _).trans (Nat.le_add_right _ _)
      _ < 2 ^ 31 := sizes
  exact lagOffsetOf_delaySum_between nan m n pos ordered small finLag finDelay low high

end Sys2Proof.Proofs
end

section
/-! SUPPORT. The control registers through a step: the three flags after each shared operation, the commands by kind,
and that every step keeps the machine's invariant. -/

namespace Sys2Proof.Machine

variable {s t : State}

/-! ### the flags after the shared operations -/

@[simp] theorem complete_busy (s : State) : (complete s).busy = false := (statusCompleted_bits s.status).1
@[simp] theorem complete_done (s : State) : (complete s).done = true := (statusCompleted_bits s.status).2.1
@[simp] theorem complete_faulted (s : State) : (complete s).faulted = s.faulted := (statusCompleted_bits s.status).2.2

@[simp] theorem takeFault_busy (f : CommandFault) (s : State) : (takeFault f s).busy = false :=
  (statusFaulted_bits s.status).1
@[simp] theorem takeFault_done (f : CommandFault) (s : State) : (takeFault f s).done = false :=
  (statusFaulted_bits s.status).2.1
@[simp] theorem takeFault_faulted (f : CommandFault) (s : State) : (takeFault f s).faulted = true :=
  (statusFaulted_bits s.status).2.2

@[simp] theorem accept_busy (v : Word) (s : State) : (accept v s).busy = true := (statusAccepted_bits s.status).1
@[simp] theorem accept_done (v : Word) (s : State) : (accept v s).done = false := (statusAccepted_bits s.status).2.1
@[simp] theorem accept_faulted (v : Word) (s : State) : (accept v s).faulted = s.faulted :=
  (statusAccepted_bits s.status).2.2

@[simp] theorem clearFault_faulted (s : State) : (clearFault s).faulted = false := (statusCleared_bits s.status).2.2

theorem faulted_congr (h : t.status = s.status) : t.faulted = s.faulted := congrArg (·.getLsbD faultBit) h

theorem infoWord_lt (info : Nat) : (infoWord info).toNat < 2 ^ 16 := by
  unfold infoWord
  rw [BitVec.toNat_setWidth]
  exact (Nat.mod_le _ _).trans_lt (BitVec.isLt _)

/-! ### commands by kind -/

theorem exec_frameInstr (mode : Mode) (s : State) : exec (frameInstr mode) s = .next (frameCommand mode s) := by
  cases mode <;> rfl

theorem instr_cases (i : Instr) : (∃ mode, i = frameInstr mode) ∨ i = .pfInit ∨ i = .pfClrstat := by
  cases i
  case pfPre => exact .inl ⟨.pre, rfl⟩
  case pfPreLa => exact .inl ⟨.preLa, rfl⟩
  case pfPreGain => exact .inl ⟨.preGain, rfl⟩
  case pfPost => exact .inl ⟨.post, rfl⟩
  case pfInit => exact .inr (.inl rfl)
  case pfClrstat => exact .inr (.inr rfl)

/-- Only one opcode selects a command (R101). -/
theorem eq_opcodeOf_of_commandOf {opc : BitVec 4} {i : Instr} (h : commandOf opc = some i) : opc = opcodeOf i := by
  revert opc
  cases i <;> decide

/-- A word is its reserved bits followed by its opcode (R100). -/
theorem rsvOf_append_opcOf (w : Word) : rsvOf w ++ opcOf w = w := by
  refine BitVec.eq_of_getLsbD_eq fun i hi => ?_
  rw [BitVec.getLsbD_append]
  rcases Nat.lt_or_ge i 4 with low | high
  · simp [opcOf, low]
  · simp [rsvOf, Nat.not_lt.mpr high, Nat.add_sub_cancel' high, show i - 4 < 60 by omega]

/-- The decoder answers a command for its encoded word only (R103). -/
theorem eq_encode_of_decode {w : Word} {i : Instr} (h : decode w = .command i) : w = encode i := by
  unfold decode at h
  split at h
  case isTrue reserved =>
    split at h
    case h_1 j selected =>
      obtain rfl : j = i := Decoded.command.inj h
      rw [encode, ← reserved, ← eq_opcodeOf_of_commandOf selected, rsvOf_append_opcOf]
    case h_2 => cases h
  case isFalse => cases h

/-- What the block's turn can do: nothing, a frame command, `PF_INIT`, `PF_CLRSTAT`, or the fault of an illegal word
(R201, R247). -/
theorem blockTurn_next_cases (h : blockTurn s = .next t) :
    (s.pending = none ∧ t = s) ∨
    (∃ mode, s.pending = some (encode (frameInstr mode)) ∧ t = frameCommand mode s) ∨
    (s.pending = some (encode .pfInit) ∧ t = complete (initFilterState s)) ∨
    (s.pending = some (encode .pfClrstat) ∧ t = complete (clearFault s)) ∨
    (∃ opc, t = takeFault (illegalCommandFault opc) s) := by
  rcases blockTurn_cases s with ⟨none, e⟩ | ⟨w, i, pending, decoded, e⟩ | ⟨w, opc, -, -, e⟩
  · exact .inl ⟨none, by cases e.symm.trans h; rfl⟩
  · rw [eq_encode_of_decode decoded] at pending
    rw [e] at h
    rcases instr_cases i with ⟨mode, rfl⟩ | rfl | rfl
    · exact .inr (.inl ⟨mode, pending, by cases (exec_frameInstr mode s).symm.trans h; rfl⟩)
    · exact .inr (.inr (.inl ⟨pending, by cases h; rfl⟩))
    · exact .inr (.inr (.inr (.inl ⟨pending, by cases h; rfl⟩)))
  · exact .inr (.inr (.inr (.inr ⟨opc, by cases e.symm.trans h; rfl⟩)))

/-! ### the faults of a frame command -/

/-- No frame command raises the reserved cause (R233). -/
theorem frameFault_cause {nan : Draws} {mode : Mode} {o : Operands} {f : CommandFault}
    (h : frameFault nan mode o s = some f) : f.cause ≠ .invalidBufferSize := by
  unfold frameFault at h
  split at h
  case h_1 g targets =>
    obtain rfl : g = f := Option.some.inj h
    obtain ⟨m, -, rfl⟩ := Option.map_eq_some_iff.mp targets
    simp
  case h_2 =>
    obtain ⟨k, -, fault⟩ := List.exists_of_findSome?_eq_some h
    rcases stepFault_cases nan s.cfg k.1 k.2.1 k.2.2 with ⟨offset, -⟩ | ⟨_, -, -, -, ⟨row, -⟩ | ⟨legal, -⟩⟩
    · rw [offset] at fault; cases fault; simp
    · rw [row] at fault; cases fault; simp
    · rw [legal] at fault; cases fault

/-! ### the control registers agree after each operation -/

/-- The agreement speaks of five registers only. -/
theorem controlWf_congr (wf : s.controlWf) (cmd : t.cmd = s.cmd) (status : t.status = s.status)
    (cause : t.faultCause = s.faultCause) (info : t.faultInfo = s.faultInfo) (pending : t.pending = s.pending) :
    t.controlWf := by
  unfold State.controlWf State.busy State.done State.faulted at *
  rw [cmd, status, cause, info, pending]
  exact wf

theorem controlWf_initial (c : Config) : (State.initial c).controlWf := by
  unfold State.controlWf State.busy State.done State.faulted
  simp [State.initial]

/-- A command completes in agreement where no fault is recorded (R200). -/
theorem controlWf_complete (bits : s.status.toNat < 8) (unfaulted : s.faulted = false) (cause : s.faultCause = 0)
    (info : s.faultInfo = 0) : (complete s).controlWf := by
  have reserved : (statusCompleted s.status).toNat < 8 :=
    putBit_lt_eight (putBit_lt_eight bits (by decide)) (by decide)
  unfold State.controlWf
  simp [reserved, unfaulted, cause, info]

/-- A fault of a raised cause is taken in agreement (R235). -/
theorem controlWf_takeFault (bits : s.status.toNat < 8) {f : CommandFault} (raised : f.cause ≠ .invalidBufferSize) :
    (takeFault f s).controlWf := by
  have reserved : (statusFaulted s.status).toNat < 8 :=
    putBit_lt_eight (putBit_lt_eight (putBit_lt_eight bits (by decide)) (by decide)) (by decide)
  have info := infoWord_lt f.info
  unfold State.controlWf
  cases cause : f.cause <;> simp_all

/-- The recorded fault is cleared in agreement (R207). -/
theorem controlWf_clear (bits : s.status.toNat < 8) : (complete (clearFault s)).controlWf :=
  controlWf_complete (putBit_lt_eight bits (by decide)) (clearFault_faulted s) rfl rfl

/-- A command is accepted in agreement, while a fault is recorded only `PF_CLRSTAT` (R200, R236). -/
theorem controlWf_accept (wf : s.controlWf) {v : Word} (clears : s.faulted = true → v = encode .pfClrstat) :
    (accept v { s with cmd := v }).controlWf := by
  obtain ⟨bits, -, -, -, -, unfaulted, raised, info⟩ := wf
  have reserved : (statusAccepted s.status).toNat < 8 :=
    putBit_lt_eight (putBit_lt_eight bits (by decide)) (by decide)
  have faulted : (accept v { s with cmd := v }).faulted = s.faulted := accept_faulted _ _
  unfold State.controlWf
  simp only [faulted]
  simpa [reserved] using ⟨clears, unfaulted, raised, info⟩

/-- A word written to CMD of an idle block leaves the control registers in agreement, stored or accepted (R200). -/
theorem controlWf_issueCommand (wf : s.controlWf) (idle : s.busy = false) (v : Word) :
    (issueCommand v s).controlWf := by
  rcases issueCommand_cases v s with ⟨-, -, ignored⟩ | ⟨clears, accepted⟩
  · rw [ignored]
    obtain ⟨bits, exclusive, pending, -, -, rest⟩ := wf
    have notBusy : s.busy ≠ true := by simp [idle]
    exact ⟨bits, exclusive, pending, fun busy => absurd busy notBusy, fun busy => absurd busy notBusy, rest⟩
  · rw [accepted]
    exact controlWf_accept wf clears

theorem controlWf_storeReg (wf : s.controlWf) (idle : s.busy = false) (r : Reg) (v : Word) :
    (storeReg r v s).controlWf := by
  cases r
  case cmd => exact controlWf_issueCommand wf idle v
  all_goals exact controlWf_congr wf rfl rfl rfl rfl rfl

theorem controlWf_hostWrite (wf : s.controlWf) (addr width : Nat) (v : Word) :
    (hostWrite addr width v s).controlWf := by
  rcases hostWrite_cases addr width v s with ⟨w, -, refused⟩ | ⟨r, -, -, -, idle, stored⟩
  · rw [refused]
    exact controlWf_congr wf rfl rfl rfl rfl rfl
  · rw [stored]
    exact controlWf_storeReg wf idle r v

theorem controlWf_hostRead (wf : s.controlWf) (addr width : Nat) : (hostRead addr width s).controlWf := by
  rcases hostRead_cases addr width s with ⟨v, -, h⟩ | ⟨r, -, -, -, -, h⟩ <;> rw [h] <;>
    exact controlWf_congr wf rfl rfl rfl rfl rfl

theorem controlWf_hostWait (wf : s.controlWf) (polls : Nat) : (hostWait polls s).controlWf := by
  have read := controlWf_hostRead wf (s.cfg.pfBase + offsetOf s.cfg .status) 8
  rcases hostWait_cases polls s with ⟨-, h⟩ | ⟨-, -, h⟩ | ⟨k, -, -, h⟩ <;> rw [h] <;> exact read

theorem faultRegisters_eq_zero (wf : s.controlWf) (unfaulted : s.faulted = false) :
    s.faultCause = 0 ∧ s.faultInfo = 0 := by
  obtain ⟨-, -, -, -, -, zero, -⟩ := wf
  exact zero unfaulted

/-- A frame command without a recorded fault ends in agreement (R200, R235). -/
theorem controlWf_frameCommand (wf : s.controlWf) (unfaulted : s.faulted = false) (mode : Mode) :
    (frameCommand mode s).controlWf := by
  have bits := wf.1
  obtain ⟨cause, info⟩ := faultRegisters_eq_zero wf unfaulted
  rcases frameCommand_cases mode s with ⟨f, fault, h⟩ | ⟨-, h⟩ <;> rw [h]
  · exact controlWf_takeFault bits (frameFault_cause fault)
  · refine controlWf_complete ?_ ((faulted_congr ?_).trans unfaulted) ?_ ?_ <;> simp [bits, cause, info]

/-- While a fault is recorded, a pending word is `PF_CLRSTAT`'s (R236). -/
theorem pending_of_faulted (wf : s.controlWf) {w : Word} (pending : s.pending = some w) (faulted : s.faulted = true) :
    w = encode .pfClrstat := by
  obtain ⟨-, -, busyIff, held, clears, -⟩ := wf
  have busy : s.busy = true := by rw [busyIff, pending]; rfl
  obtain ⟨isCmd, -⟩ := held busy
  rw [← clears busy faulted]
  exact Option.some.inj (pending.symm.trans isCmd)

theorem unfaulted_of_pending (wf : s.controlWf) {i : Instr} (pending : s.pending = some (encode i))
    (other : encode i ≠ encode .pfClrstat) : s.faulted = false := by
  by_contra faulted
  exact other (pending_of_faulted wf pending (by simpa using faulted))

theorem controlWf_blockTurn (wf : s.controlWf) (h : blockTurn s = .next t) : t.controlWf := by
  have bits := wf.1
  rcases blockTurn_next_cases h with ⟨-, rfl⟩ | ⟨mode, pending, rfl⟩ | ⟨pending, rfl⟩ | ⟨-, rfl⟩ | ⟨opc, rfl⟩
  · exact wf
  · exact controlWf_frameCommand wf (unfaulted_of_pending wf pending (by cases mode <;> decide)) mode
  · have unfaulted := unfaulted_of_pending wf pending (by decide)
    obtain ⟨cause, info⟩ := faultRegisters_eq_zero wf unfaulted
    exact controlWf_complete bits unfaulted cause info
  · exact controlWf_clear bits
  · exact controlWf_takeFault bits (by simp [illegalCommandFault])

/-! ### the invariant through a step -/

theorem config_default_wf : Config.default.wf := by decide +kernel

theorem wf_initial {c : Config} (legal : c.wf) : (State.initial c).wf :=
  ⟨legal, memory_wf_initial c, controlWf_initial c⟩

/-- The block's turn keeps the canonical form of the window's storage. -/
theorem memory_wf_blockTurn (mem : Memory.wf s) (h : blockTurn s = .next t) : Memory.wf t := by
  rcases blockTurn_next_cases h with ⟨-, rfl⟩ | ⟨mode, -, rfl⟩ | ⟨-, rfl⟩ | ⟨-, rfl⟩ | ⟨opc, rfl⟩
  · exact mem
  · exact memory_wf_frameCommand mem mode
  · exact memory_wf_complete (memory_wf_initFilterState mem)
  · exact memory_wf_complete (memory_wf_clearFault mem)
  · exact memory_wf_takeFault mem _

/-- `t` has the configuration of `s`, and its fault record begins with that of `s`. -/
def KeepsConfigurationAndRecord (s t : State) : Prop := t.cfg = s.cfg ∧ ∃ added, t.record = s.record ++ added

theorem keeps_of_eq (cfg : t.cfg = s.cfg) (record : t.record = s.record) : KeepsConfigurationAndRecord s t :=
  ⟨cfg, [], by simp [record]⟩

theorem keeps_frameCommand (mode : Mode) (s : State) : KeepsConfigurationAndRecord s (frameCommand mode s) := by
  rcases frameCommand_cases mode s with ⟨f, -, h⟩ | ⟨-, h⟩ <;> rw [h]
  · exact ⟨rfl, _, noteOperands_record mode s⟩
  · exact ⟨by simp, _, by rw [complete_record, runFrame_record, noteOperands_record]⟩

theorem keeps_blockTurn (h : blockTurn s = .next t) : KeepsConfigurationAndRecord s t := by
  rcases blockTurn_next_cases h with ⟨-, rfl⟩ | ⟨mode, -, rfl⟩ | ⟨-, rfl⟩ | ⟨-, rfl⟩ | ⟨opc, rfl⟩
  case inr.inl => exact keeps_frameCommand mode s
  all_goals exact keeps_of_eq rfl rfl

theorem keeps_hostRead (addr width : Nat) (s : State) : KeepsConfigurationAndRecord s (hostRead addr width s) := by
  rcases hostRead_cases addr width s with ⟨v, -, h⟩ | ⟨r, -, -, -, -, h⟩ <;> rw [h]
  · exact ⟨rfl, [v], rfl⟩
  · exact keeps_of_eq rfl rfl

theorem keeps_storeReg (r : Reg) (v : Word) (s : State) : KeepsConfigurationAndRecord s (storeReg r v s) := by
  cases r
  case cmd =>
    rcases issueCommand_cases v s with ⟨-, -, h⟩ | ⟨-, h⟩ <;> exact keeps_of_eq (by simp [storeReg, h])
      (by simp [storeReg, h])
  all_goals exact keeps_of_eq rfl rfl

theorem keeps_hostWrite (addr width : Nat) (v : Word) (s : State) :
    KeepsConfigurationAndRecord s (hostWrite addr width v s) := by
  rcases hostWrite_cases addr width v s with ⟨w, -, h⟩ | ⟨r, -, -, -, -, h⟩ <;> rw [h]
  · exact ⟨rfl, [w], rfl⟩
  · exact keeps_storeReg r v s

/-- A poll leaves what the read of STATUS leaves, but for the events. -/
theorem hostWait_eq (polls : Nat) (s : State) :
    ∃ events, hostWait polls s = { hostRead (s.cfg.pfBase + offsetOf s.cfg .status) 8 s with inputs := events } := by
  rcases hostWait_cases polls s with ⟨-, h⟩ | ⟨-, -, h⟩ | ⟨k, -, -, h⟩ <;> exact ⟨_, h⟩

theorem keeps_step (h : step s = .next t) : KeepsConfigurationAndRecord s t := by
  rcases step_cases h with ⟨rest, -, turn⟩ | ⟨addr, width, rest, -, rfl⟩ | ⟨addr, width, v, rest, -, rfl⟩ |
    ⟨polls, rest, -, rfl⟩ | ⟨rest, -, rfl⟩
  · exact keeps_blockTurn (s := { s with inputs := rest }) turn
  · exact keeps_hostRead addr width { s with inputs := rest }
  · exact keeps_hostWrite addr width v { s with inputs := rest }
  · obtain ⟨events, e⟩ := hostWait_eq polls { s with inputs := rest }
    rw [e]
    exact keeps_hostRead _ 8 { s with inputs := rest }
  · exact keeps_of_eq rfl rfl

/-- The three parts of the invariant through one step. -/
theorem wf_step (wf : s.wf) (h : step s = .next t) : t.wf := by
  obtain ⟨legal, mem, control⟩ := wf
  obtain ⟨cfg, -⟩ := keeps_step h
  refine ⟨cfg ▸ legal, ?_⟩
  rcases step_cases h with ⟨rest, -, turn⟩ | ⟨addr, width, rest, -, rfl⟩ | ⟨addr, width, v, rest, -, rfl⟩ |
    ⟨polls, rest, -, rfl⟩ | ⟨rest, -, rfl⟩
  all_goals
    have mem : Memory.wf { s with inputs := rest } := mem
    have control : State.controlWf { s with inputs := rest } := control
  · exact ⟨memory_wf_blockTurn mem turn, controlWf_blockTurn control turn⟩
  · exact ⟨memory_wf_hostRead mem addr width, controlWf_hostRead control addr width⟩
  · exact ⟨memory_wf_hostWrite mem addr width v, controlWf_hostWrite control addr width v⟩
  · exact ⟨memory_wf_hostWait mem polls, controlWf_hostWait control polls⟩
  · exact ⟨memory_wf_applyReset _, controlWf_congr (controlWf_initial s.cfg) rfl rfl rfl rfl rfl⟩

end Sys2Proof.Machine

namespace Sys2Proof.Proofs

/-- Settles O8: the reset values meet the storage's and the control registers' parts of the invariant, and the default
parameters are legal. -/
theorem resetStatesAreWellFormed : Obligations.ResetStatesAreWellFormed := by
  unfold Obligations.ResetStatesAreWellFormed
  exact ⟨fun _ => Machine.wf_initial, Machine.wf_initial Machine.config_default_wf⟩

/-- Settles O9: the configuration, the storage and the control registers each keep their part. -/
theorem stepKeepsWellFormed : Obligations.StepKeepsWellFormed := by
  unfold Obligations.StepKeepsWellFormed
  exact fun _ _ => Machine.wf_step

/-- Settles O10: each event keeps the configuration and only appends to the record. -/
theorem stepKeepsConfigurationAndRecord : Obligations.StepKeepsConfigurationAndRecord := by
  unfold Obligations.StepKeepsConfigurationAndRecord
  exact fun _ _ => Machine.keeps_step

end Sys2Proof.Proofs
end

section
/-! SUPPORT. What the block and the host leave alone: FilterState and the block's inputs (R36 to R39, R42); and the
values of a reset (R51). -/

namespace Sys2Proof.Machine

variable {s t : State}

/-! ### FilterState -/

theorem sameFilterState_refl (s : State) : sameFilterState s s := ⟨rfl, rfl, rfl, rfl⟩

theorem sameFilterState_hostRead (addr width : Nat) (s : State) : sameFilterState s (hostRead addr width s) := by
  rcases hostRead_cases addr width s with ⟨v, -, h⟩ | ⟨r, -, -, -, -, h⟩ <;> rw [h] <;> exact sameFilterState_refl s

theorem sameFilterState_hostWait (polls : Nat) (s : State) : sameFilterState s (hostWait polls s) := by
  obtain ⟨events, h⟩ := hostWait_eq polls s
  rw [h]
  exact sameFilterState_hostRead _ 8 s

/-- A store changes FilterState only through one of its registers (R31). -/
theorem sameFilterState_storeReg {r : Reg} (other : isFilterStateReg r = false) (v : Word) (s : State) :
    sameFilterState s (storeReg r v s) := by
  cases r
  case cmd =>
    rcases issueCommand_cases v s with ⟨-, -, h⟩ | ⟨-, h⟩ <;> rw [storeReg, h] <;> exact sameFilterState_refl s
  case hist | damp | lastLag | lastGain => cases other
  all_goals exact sameFilterState_refl s

/-- A write that changes FilterState is an 8-byte one to a register of FilterState, the block idle (R36). -/
theorem hostWrite_filterState {addr width : Nat} {v : Word} (changed : ¬ sameFilterState s (hostWrite addr width v s)) :
    s.busy = false ∧ width = 8 ∧ ∃ r, accessReg s.cfg addr 8 = some r ∧ isFilterStateReg r = true := by
  rcases hostWrite_cases addr width v s with ⟨w, -, h⟩ | ⟨r, -, reached, -, idle, h⟩ <;> rw [h] at changed
  · exact absurd (sameFilterState_refl s) changed
  · obtain rfl : width = 8 := by
      unfold accessReg at reached
      split at reached
      case isTrue aligned => exact aligned.1
      case isFalse => cases reached
    refine ⟨idle, rfl, r, reached, ?_⟩
    by_contra other
    exact changed (sameFilterState_storeReg (by simpa using other) v s)

theorem exportFilterState_of_preGain (h : s.work.mode = .preGain) : exportFilterState s = setupExport s := if_pos h

theorem exportFilterState_of_ne (h : s.work.mode ≠ .preGain) :
    exportFilterState s = storeFilterState (setupExport s) := if_neg h

/-- Gain search exports nothing (R182, R184). -/
theorem sameFilterState_runFrame_preGain (o : Operands) (nan : Draws) (s : State) :
    sameFilterState s (runFrame .preGain o nan s) := by
  have search : (runSubframes o nan (initGainSearch (importWork .preGain (seedOf nan .preGain o s) s))).work.mode =
      .preGain := by simp
  unfold sameFilterState runFrame
  rw [exportFilterState_of_preGain search]
  simp

/-- A frame command that changes FilterState exports it and completes (R36, R181). -/
theorem frameCommand_filterState {mode : Mode} (changed : ¬ sameFilterState s (frameCommand mode s)) :
    mode ≠ .preGain ∧ (frameCommand mode s).done = true ∧ (frameCommand mode s).busy = false := by
  rcases frameCommand_cases mode s with ⟨f, -, h⟩ | ⟨-, h⟩ <;> rw [h] at changed ⊢
  · exact absurd (sameFilterState_refl s) changed
  · refine ⟨?_, complete_done _, complete_busy _⟩
    rintro rfl
    have kept := sameFilterState_runFrame_preGain (operandsOf .preGain s) (drawsOf s) (noteOperands .preGain s)
    exact changed (by simpa [sameFilterState] using kept)

/-- A turn of the block that changes FilterState completes an exporting frame command or `PF_INIT` (R36). -/
theorem blockTurn_filterState (h : blockTurn s = .next t) (changed : ¬ sameFilterState s t) :
    t.done = true ∧ t.busy = false ∧
    ∃ i, s.pending = some (encode i) ∧ (i = .pfPre ∨ i = .pfPreLa ∨ i = .pfPost ∨ i = .pfInit) := by
  rcases blockTurn_next_cases h with ⟨-, rfl⟩ | ⟨mode, pending, rfl⟩ | ⟨pending, rfl⟩ | ⟨-, rfl⟩ | ⟨opc, rfl⟩
  case inr.inl =>
    obtain ⟨exports, done, idle⟩ := frameCommand_filterState changed
    exact ⟨done, idle, _, pending, by cases mode <;> simp_all [frameInstr]⟩
  case inr.inr.inl => exact ⟨complete_done _, complete_busy _, _, pending, by simp⟩
  all_goals exact absurd (sameFilterState_refl _) changed

/-! ### the block's inputs -/

/-- LAG, GAIN, IN and CMD are the same. -/
def SameInputs (s t : State) : Prop := t.lag = s.lag ∧ t.gain = s.gain ∧ t.input = s.input ∧ t.cmd = s.cmd

theorem sameInputs_frameCommand (mode : Mode) (s : State) : SameInputs s (frameCommand mode s) := by
  rcases frameCommand_cases mode s with ⟨f, -, h⟩ | ⟨-, h⟩ <;> rw [h] <;> simp [SameInputs]

theorem sameInputs_blockTurn (h : blockTurn s = .next t) : SameInputs s t := by
  rcases blockTurn_next_cases h with ⟨-, rfl⟩ | ⟨mode, -, rfl⟩ | ⟨-, rfl⟩ | ⟨-, rfl⟩ | ⟨opc, rfl⟩
  case inr.inl => exact sameInputs_frameCommand mode s
  all_goals exact ⟨rfl, rfl, rfl, rfl⟩

/-! ### reset -/

theorem step_of_reset {rest : List Event} (h : s.inputs = .reset :: rest) :
    step s = .next (applyReset { s with inputs := rest }) := by
  unfold step
  rw [h]

theorem getD_replicate_unwritten (n k : Nat) :
    (List.replicate n Slot.unwritten).getD k Slot.unwritten = Slot.unwritten := by
  rw [List.getD_eq_getElem?_getD, List.getElem?_replicate]
  split <;> rfl

/-- After a reset every mark is clear, inside the arrays and outside them (R51). -/
theorem marked_applyReset {r : Reg} (h : hasMark r = true) (s : State) : marked (applyReset s) r = false := by
  cases r
  case lag | gain | input | output => exact congrArg Slot.written (getD_replicate_unwritten _ _)
  case trial j k =>
    have lane : ∃ n, (applyReset s).trial.getD j [] = List.replicate n Slot.unwritten := by
      rw [applyReset_trial, List.getD_eq_getElem?_getD, List.getElem?_replicate]
      split
      · exact ⟨_, rfl⟩
      · exact ⟨0, rfl⟩
    obtain ⟨n, lane⟩ := lane
    rw [marked, lane, getD_replicate_unwritten]
    rfl
  all_goals cases h

end Sys2Proof.Machine

namespace Sys2Proof.Proofs

/-- Settles O48: a step that changes FilterState is a turn of the block, a write or a reset. -/
theorem filterStateChangesAtFourEventsOnly : Obligations.FilterStateChangesAtFourEventsOnly := by
  unfold Obligations.FilterStateChangesAtFourEventsOnly
  intro s t h changed
  rcases Machine.step_cases h with ⟨rest, next, turn⟩ | ⟨addr, width, rest, -, rfl⟩ |
    ⟨addr, width, v, rest, event, rfl⟩ | ⟨polls, rest, -, rfl⟩ | ⟨rest, event, -⟩
  · obtain ⟨done, idle, command⟩ := Machine.blockTurn_filterState turn changed
    exact .inl ⟨next.imp And.left fun e => ⟨rest, e⟩, done, idle, command⟩
  · exact absurd (Machine.sameFilterState_hostRead addr width _) changed
  · obtain ⟨idle, rfl, r, reached, isFilterState⟩ := Machine.hostWrite_filterState changed
    exact .inr (.inr ⟨idle, addr, v, rest, r, event, reached, isFilterState⟩)
  · exact absurd (Machine.sameFilterState_hostWait polls _) changed
  · exact .inr (.inl ⟨rest, event⟩)

/-- Settles O49: every command, completed or faulted, and an illegal word leave the four registers. -/
theorem blockNeverWritesItsInputs : Obligations.BlockNeverWritesItsInputs := by
  unfold Obligations.BlockNeverWritesItsInputs
  exact fun _ _ => Machine.sameInputs_blockTurn

/-- Settles O11: the step of a reset event is `applyReset`, which leaves no mark. -/
theorem resetEventGivesResetValues : Obligations.ResetEventGivesResetValues := by
  unfold Obligations.ResetEventGivesResetValues
  intro s rest event
  refine ⟨_, Machine.step_of_reset event, rfl, rfl, rfl, rfl, rfl, rfl, rfl, rfl, rfl, rfl, ?_, ?_, ?_, rfl, rfl, rfl⟩
  · exact fun m => ⟨Machine.marked_applyReset rfl _, Machine.marked_applyReset rfl _⟩
  · exact fun k => ⟨Machine.marked_applyReset rfl _, Machine.marked_applyReset rfl _⟩
  · exact fun j k => Machine.marked_applyReset rfl _

end Sys2Proof.Proofs
end

section
/-! SUPPORT. What a frame leaves in FilterState (R32, R33, R130, R181): validation as a condition on the state, INDEX
through the loops, the last sample step of the main pass, and an invariant of the sample steps that says what the
working buffer holds. -/

namespace Sys2Proof.Machine

variable {o : Operands} {nan : Draws} {mode : Mode} {s t : State}

/-! ### operands and validation -/

theorem operandsOf_lagAt {m : Nat} (h : m < subframes) (mode : Mode) (s : State) :
    (operandsOf mode s).lagAt m = readOperand s (.lag m) := by
  simp [Operands.lagAt, operandsOf, h]

theorem operandsOf_inputAt {k : Nat} (h : k < samplesOf mode s.cfg) :
    (operandsOf mode s).inputAt k = readOperand s (.input k) := by
  simp [Operands.inputAt, operandsOf, h]

theorem frameLen_le_samplesOf (mode : Mode) (c : Config) : c.frameLen ≤ samplesOf mode c := by
  unfold samplesOf
  split
  · exact Nat.le_add_right _ _
  · exact le_rfl

theorem targetLagFault_eq_none_iff (mode : Mode) (s : State) :
    targetLagFault s.cfg (operandsOf mode s) = none ↔ TargetLagsLegal s := by
  unfold targetLagFault TargetLagsLegal
  rw [Option.map_eq_none_iff, List.find?_eq_none]
  refine forall_congr' fun m => ?_
  rw [List.mem_range]
  refine imp_congr_right fun h => ?_
  rw [operandsOf_lagAt h]
  simp

theorem stepLagFault_eq_none_iff (mode : Mode) (s : State) :
    stepLagFault (drawsOf s) s.cfg (operandsOf mode s) (seedOf (drawsOf s) mode (operandsOf mode s) s).oldLag = none ↔
      ∀ k ∈ frameStepLags mode s, stepFault (drawsOf s) s.cfg k.1 k.2.1 k.2.2 = none := by
  have targets : (List.range subframes).map (operandsOf mode s).lagAt =
      (List.range subframes).map fun m => readOperand s (.lag m) :=
    List.map_congr_left fun m h => operandsOf_lagAt (List.mem_range.mp h) mode s
  unfold stepLagFault frameStepLags
  rw [targets, List.findSome?_eq_none_iff]

/-- Validation finds no fault exactly where every target lag and every step lag is legal (R171, R172). -/
theorem frameFault_eq_none_iff (mode : Mode) (s : State) :
    frameFault (drawsOf s) mode (operandsOf mode s) s = none ↔ FrameLegal mode s := by
  unfold FrameLegal
  rw [← targetLagFault_eq_none_iff mode s, ← stepLagFault_eq_none_iff mode s, frameFault]
  cases targetLagFault s.cfg (operandsOf mode s) <;> simp

/-- A frame command that passes validation runs phases 5 to 9 and completes (R170, R200). -/
theorem frameCommand_of_legal (legal : FrameLegal mode s) :
    frameCommand mode s = complete (runFrame mode (operandsOf mode s) (drawsOf s) (noteOperands mode s)) := by
  unfold frameCommand
  rw [(frameFault_eq_none_iff mode s).mpr legal]

/-! ### INDEX through the loops (R131, R180) -/

@[simp] theorem segment_work_index (o : Operands) (nan : Draws) (n : Nat) (s : State) :
    (segment o nan n s).work.index = s.work.index + n := by
  induction n with
  | zero => rfl
  | succ n ih => rw [segment_last, sampleStep_work_index, ih, Nat.add_assoc]

@[simp] theorem runStep_work_index (o : Operands) (nan : Draws) (n : Nat) (s : State) :
    (runStep o nan n s).work.index = s.work.index + s.cfg.samplesPerStep := by simp [runStep]

@[simp] theorem forLoop_runStep_cfg (o : Operands) (nan : Draws) (count start : Nat) (s : State) :
    (forLoop (runStep o nan) count start s).cfg = s.cfg :=
  forLoop_frame (·.cfg) _ _ _ fun n b => runStep_cfg o nan n b

@[simp] theorem forLoop_runStep_index (o : Operands) (nan : Draws) (count start : Nat) (s : State) :
    (forLoop (runStep o nan) count start s).work.index = s.work.index + count * s.cfg.samplesPerStep := by
  induction count with
  | zero => simp
  | succ n ih => rw [forLoop_last, runStep_work_index, ih, forLoop_runStep_cfg, Nat.succ_mul, Nat.add_assoc]

@[simp] theorem runSubframe_work_index (o : Operands) (nan : Draws) (m : Nat) (s : State) :
    (runSubframe o nan m s).work.index = s.work.index + s.cfg.subframeLen := forLoop_runStep_index o nan _ 0 _

@[simp] theorem forLoop_runSubframe_cfg (o : Operands) (nan : Draws) (count start : Nat) (s : State) :
    (forLoop (runSubframe o nan) count start s).cfg = s.cfg :=
  forLoop_frame (·.cfg) _ _ _ fun m b => runSubframe_cfg o nan m b

@[simp] theorem forLoop_runSubframe_index (o : Operands) (nan : Draws) (count start : Nat) (s : State) :
    (forLoop (runSubframe o nan) count start s).work.index = s.work.index + count * s.cfg.subframeLen := by
  induction count with
  | zero => simp
  | succ n ih => rw [forLoop_last, runSubframe_work_index, ih, forLoop_runSubframe_cfg, Nat.succ_mul, Nat.add_assoc]

@[simp] theorem runSubframes_work_index (o : Operands) (nan : Draws) (s : State) :
    (runSubframes o nan s).work.index = s.work.index + subframes * s.cfg.subframeLen :=
  forLoop_runSubframe_index o nan _ 0 s

/-! ### the state of the sample schedule -/

/-- The segment of step `n` of sub-frame `m` ends the sub-frame's first `n + 1` steps (R179). -/
theorem segment_segmentStart (o : Operands) (nan : Draws) (s : State) (m n : Nat) :
    segment o nan s.cfg.samplesPerStep (segmentStart o nan s m n) =
      forLoop (runStep o nan) (n + 1) 0 (setupSubframe o nan m (forLoop (runSubframe o nan) m 0 s)) := by
  rw [forLoop_last, Nat.zero_add, runStep, forLoop_runStep_cfg, setupSubframe_cfg, forLoop_runSubframe_cfg,
    segmentStart]

/-- The last step's segment of a sub-frame ends the sub-frame (R178). -/
theorem segment_lastStep (o : Operands) (nan : Draws) {s : State} (steps : 0 < s.cfg.steps) (m : Nat) :
    segment o nan s.cfg.samplesPerStep (segmentStart o nan s m (s.cfg.steps - 1)) =
      forLoop (runSubframe o nan) (m + 1) 0 s := by
  rw [segment_segmentStart, Nat.sub_add_cancel steps, forLoop_last, Nat.zero_add, runSubframe,
    forLoop_runSubframe_cfg]

/-- The main pass ends with the last sample step of its last step (R178, R179). -/
theorem sampleStep_lastSample (o : Operands) (nan : Draws) {s : State} (steps : 0 < s.cfg.steps)
    (samples : 0 < s.cfg.samplesPerStep) :
    sampleStep o nan (sampleStart o nan s 3 (s.cfg.steps - 1) (s.cfg.samplesPerStep - 1)) = runSubframes o nan s := by
  rw [sampleStart, ← segment_last, Nat.sub_add_cancel samples, segment_lastStep o nan steps, runSubframes]

@[simp] theorem loopStart_cfg (mode : Mode) (s : State) : (loopStart mode s).cfg = s.cfg := by simp [loopStart]

@[simp] theorem loopStart_work_mode (mode : Mode) (s : State) : (loopStart mode s).work.mode = mode := by
  simp [loopStart]

@[simp] theorem loopStart_work_index (mode : Mode) (s : State) : (loopStart mode s).work.index = 0 := by
  simp [loopStart]

/-- The main pass makes one frame (R9, R180). -/
theorem runSubframes_loopStart_index (legal : s.cfg.wf) :
    (runSubframes o nan (loopStart mode s)).work.index = s.cfg.frameLen := by
  obtain ⟨⟨frame, -⟩, -⟩ := legal
  rw [runSubframes_work_index, loopStart_work_index, loopStart_cfg, frame, Nat.zero_add, Nat.mul_assoc]

theorem memory_wf_loopStart (mem : Memory.wf s) (mode : Mode) : Memory.wf (loopStart mode s) :=
  memory_wf_initGainSearch (memory_wf_importWork (memory_wf_noteOperands mem mode) mode _)

theorem sized_loopStart (mem : Memory.wf s) (mode : Mode) : Work.sized (loopStart mode s) :=
  sized_initGainSearch (sized_importWork (memory_wf_noteOperands mem mode) mode _)

/-! ### OUT below INDEX -/

theorem sampleStep_output_of_lt {k : Nat} (below : k < s.work.index) :
    (sampleStep o nan s).output[k]? = s.output[k]? := by
  rw [sampleStep, mainStep_output, trialStep_work_index, trialStep_output, List.getElem?_set_ne below.ne']

/-- A segment leaves the outputs already made (R129). -/
theorem segment_output_of_lt {k : Nat} (below : k < s.work.index) (n : Nat) :
    (segment o nan n s).output[k]? = s.output[k]? := by
  induction n with
  | zero => rfl
  | succ n ih =>
    rw [segment_last, sampleStep_output_of_lt (by rw [segment_work_index]; omega), ih]

theorem runLookahead_output_of_lt {k : Nat} (below : k < s.work.index) :
    (runLookahead o nan s).output[k]? = s.output[k]? := by
  unfold runLookahead
  split
  · exact segment_output_of_lt (s := setupLookahead s) below _
  · rfl

theorem peek_output_congr {k : Nat} (h : t.output[k]? = s.output[k]?) : peek t (.output k) = peek s (.output k) := by
  simp [peek, h]

/-! ### the working buffer -/

theorem getD_set_ne {α : Type} {l : List α} {i k : Nat} {v d : α} (apart : i ≠ k) :
    (l.set i v).getD k d = l.getD k d := by
  rw [List.getD_eq_getElem?_getD, List.getElem?_set_ne apart, ← List.getD_eq_getElem?_getD]

theorem getD_set_self {α : Type} {l : List α} {i : Nat} {v d : α} (inside : i < l.length) :
    (l.set i v).getD i d = v := by
  rw [List.getD_eq_getElem?_getD, List.getElem?_set_self inside, Option.getD_some]

/-- What the working buffer holds while sample steps run: the imported history, and after it, at each sample already
made, the rounded sum of its input and its output (R121, R130). -/
structure HistoryMade (o : Operands) (nan : Draws) (hist : List F64) (s : State) : Prop where
  room : s.work.wbuf.length = s.cfg.wbufLen
  outputs : s.output.length = s.cfg.segLen
  imported : ∀ k, k < s.cfg.histLen → s.work.wbuf.getD k 0 = hist.getD k 0
  made : ∀ k, k < s.work.index → k < s.cfg.segLen →
    s.work.wbuf.getD (s.cfg.histLen + k) 0 =
      F64.add (nan ⟨.histAdd, k, 0, 0⟩) (o.inputAt k) (peek s (.output k))

variable {hist : List F64}

theorem historyMade_congr (h : HistoryMade o nan hist s) (cfg : t.cfg = s.cfg) (wbuf : t.work.wbuf = s.work.wbuf)
    (index : t.work.index = s.work.index) (output : t.output = s.output) : HistoryMade o nan hist t where
  room := by rw [cfg, wbuf]; exact h.room
  outputs := by rw [cfg, output]; exact h.outputs
  imported := by rw [cfg, wbuf]; exact h.imported
  made := by unfold peek; rw [cfg, wbuf, index, output]; exact h.made

theorem mainStep_work_wbuf (o : Operands) (nan : Draws) (s : State) :
    (mainStep o nan s).work.wbuf = s.work.wbuf.set (writePos s) (historySample o nan s) := rfl

theorem writePos_lt (inSegment : s.work.index < s.cfg.segLen) : writePos s < s.cfg.wbufLen := by
  unfold writePos Config.wbufLen
  unfold Config.segLen at inSegment
  omega

/-- The main path's history sample is the sum of the sample's input and of the output it stores (R129, R130). -/
theorem historyMade_mainStep (h : HistoryMade o nan hist s) : HistoryMade o nan hist (mainStep o nan s) where
  room := by rw [mainStep_work_wbuf, mainStep_cfg, List.length_set]; exact h.room
  outputs := by rw [mainStep_output, mainStep_cfg, List.length_set]; exact h.outputs
  imported k inHistory := by
    rw [mainStep_cfg] at inHistory
    rw [mainStep_work_wbuf, getD_set_ne (by unfold writePos; omega)]
    exact h.imported k inHistory
  made k before inSegment := by
    rw [mainStep_cfg] at inSegment ⊢
    rw [mainStep_work_wbuf, peek, mainStep_output]
    rcases (Nat.lt_succ_iff.mp before).lt_or_eq with earlier | rfl
    · rw [getD_set_ne (by unfold writePos; omega), getD_set_ne earlier.ne']
      exact h.made k earlier inSegment
    · rw [Nat.add_comm, ← writePos, getD_set_self (by rw [h.room]; exact writePos_lt inSegment),
        getD_set_self (by rw [h.outputs]; exact inSegment)]
      rfl

theorem historyMade_sampleStep (h : HistoryMade o nan hist s) : HistoryMade o nan hist (sampleStep o nan s) :=
  historyMade_mainStep (historyMade_congr h (by simp) (by simp) (by simp) (by simp))

theorem historyMade_runStep (h : HistoryMade o nan hist s) (n : Nat) : HistoryMade o nan hist (runStep o nan n s) :=
  forLoop_keeps _ 0 (fun _ _ => historyMade_sampleStep) (historyMade_congr h (by simp) (by simp) (by simp) (by simp))

theorem historyMade_runSubframe (h : HistoryMade o nan hist s) (m : Nat) :
    HistoryMade o nan hist (runSubframe o nan m s) :=
  forLoop_keeps _ 0 (fun n _ h => historyMade_runStep h n) (historyMade_congr h rfl rfl rfl rfl)

theorem historyMade_runSubframes (h : HistoryMade o nan hist s) : HistoryMade o nan hist (runSubframes o nan s) :=
  forLoop_keeps _ 0 (fun m _ h => historyMade_runSubframe h m) h

/-- The import makes the history the working buffer's first part (R173). -/
theorem historyMade_loopStart (mem : Memory.wf s) (mode : Mode) : HistoryMade o nan s.hist (loopStart mode s) where
  room := (sized_loopStart mem mode).1
  outputs := by
    obtain ⟨-, -, -, -, -, outputs, -⟩ := memory_wf_loopStart mem mode
    exact outputs
  imported k inHistory := by
    obtain ⟨length, -⟩ := mem
    rw [loopStart_cfg, ← length] at inHistory
    simp only [loopStart, initGainSearch_work_wbuf, importWork_work, noteOperands_hist]
    exact List.getD_append _ _ _ _ inHistory
  made k before := absurd before (by simp)

/-! ### the exported FilterState -/

/-- The main pass of a frame command, from its operands and its own free NaNs. -/
def mainPass (mode : Mode) (s : State) : State := runSubframes (operandsOf mode s) (drawsOf s) (loopStart mode s)

theorem mainPass_cfg (mode : Mode) (s : State) : (mainPass mode s).cfg = s.cfg := by simp [mainPass]

theorem mainPass_work_mode (mode : Mode) (s : State) : (mainPass mode s).work.mode = mode := by simp [mainPass]

/-- An exporting frame command that passes validation leaves what the main pass made, exported, and the lookahead's
outputs (R170, R181). -/
theorem frameCommand_of_exports (exports : mode ≠ .preGain) (legal : FrameLegal mode s) :
    frameCommand mode s = complete (idlePhase (runLookahead (operandsOf mode s) (drawsOf s)
      (storeFilterState (setupExport (mainPass mode s))))) := by
  rw [← exportFilterState_of_ne (by rw [mainPass_work_mode]; exact exports)]
  exact frameCommand_of_legal legal

theorem mainPass_work_index (wf : s.wf) (mode : Mode) : (mainPass mode s).work.index = s.cfg.frameLen :=
  runSubframes_loopStart_index wf.1

theorem historyMade_mainPass (mem : Memory.wf s) (mode : Mode) :
    HistoryMade (operandsOf mode s) (drawsOf s) s.hist (mainPass mode s) :=
  historyMade_runSubframes (historyMade_loopStart mem mode)

theorem getD_take_drop {α : Type} (l : List α) (d : α) {i n k : Nat} (h : k < n) :
    ((l.drop i).take n).getD k d = l.getD (i + k) d := by
  simp [h]

section

variable (exports : mode ≠ .preGain) (legal : FrameLegal mode s)
include exports legal

theorem frameCommand_hist :
    (frameCommand mode s).hist = ((mainPass mode s).work.wbuf.drop s.cfg.frameLen).take s.cfg.histLen := by
  rw [frameCommand_of_exports exports legal]
  simp [mainPass_cfg]

theorem frameCommand_damp : (frameCommand mode s).damp = (mainPass mode s).work.wdamp := by
  rw [frameCommand_of_exports exports legal]
  simp

theorem frameCommand_output_of_lt {k : Nat} (below : k < (mainPass mode s).work.index) :
    peek (frameCommand mode s) (.output k) = peek (mainPass mode s) (.output k) := by
  rw [frameCommand_of_exports exports legal]
  refine peek_output_congr ?_
  rw [complete_output, idlePhase_output]
  exact (runLookahead_output_of_lt (by simpa using below)).trans (by simp)

/-- R32, R130, R181: the exported history is the working buffer's tail. -/
theorem frameCommand_hist_getD {k : Nat} (inHistory : k < s.cfg.histLen) :
    (frameCommand mode s).hist.getD k 0 = (mainPass mode s).work.wbuf.getD (s.cfg.frameLen + k) 0 := by
  rw [frameCommand_hist exports legal, getD_take_drop _ _ inHistory]

/-- The history entry of sample `j` of the frame. -/
theorem frameCommand_hist_made (wf : s.wf) {j : Nat} (inFrame : j < s.cfg.frameLen)
    (reached : s.cfg.frameLen ≤ s.cfg.histLen + j) :
    (frameCommand mode s).hist.getD (s.cfg.histLen + j - s.cfg.frameLen) 0 =
      F64.add (drawsOf s ⟨.histAdd, j, 0, 0⟩) (readOperand s (.input j)) (peek (frameCommand mode s) (.output j)) := by
  have index := mainPass_work_index wf mode
  have inSegment : j < s.cfg.segLen := inFrame.trans_le (Nat.le_add_right _ _)
  have made := (historyMade_mainPass wf.2.1 mode).made j (index ▸ inFrame)
  rw [mainPass_cfg] at made
  rw [frameCommand_hist_getD exports legal (by omega), Nat.add_sub_cancel' reached, made inSegment,
    operandsOf_inputAt (inFrame.trans_le (frameLen_le_samplesOf mode s.cfg)),
    frameCommand_output_of_lt exports legal (index ▸ inFrame)]

/-- Where the history is longer than the frame, its oldest part is the old history's newest. -/
theorem frameCommand_hist_imported (mem : Memory.wf s) {k : Nat} (inHistory : s.cfg.frameLen + k < s.cfg.histLen) :
    (frameCommand mode s).hist.getD k 0 = s.hist.getD (s.cfg.frameLen + k) 0 := by
  rw [frameCommand_hist_getD exports legal (by omega)]
  exact (historyMade_mainPass mem mode).imported _ (by rw [mainPass_cfg]; exact inHistory)

end

/-! ### the damper memory -/

/-- The damper shift moves every entry one place up (R122). -/
theorem getD_shiftDamper {d : List F64} {k : Nat} (pos : 0 < k) (inside : k < d.length) :
    (shiftDamper d).getD k 0 = d.getD (k - 1) 0 := by
  obtain ⟨k, rfl⟩ : ∃ j, k = j + 1 := ⟨k - 1, by omega⟩
  cases d with
  | nil => cases inside
  | cons x xs =>
    have inside : k < xs.length := by simpa using inside
    simp [shiftDamper, inside, Nat.lt_succ_of_lt inside]

theorem sampleStep_wdamp_of_ne (search : s.work.mode ≠ .preGain) :
    (sampleStep o nan s).work.wdamp = nextDamper nan s := by
  rw [sampleStep, trialStep_of_ne search, mainStep_work]

theorem nextDamper_newest (nonempty : 0 < s.work.wdamp.length) :
    (nextDamper nan s).getD 0 0 =
      F64.mul (nan ⟨.gainMul, s.work.index, 0, 0⟩) s.work.wGain (predict nan s) :=
  getD_set_self (by rw [length_shiftDamper]; exact nonempty)

theorem nextDamper_older {k : Nat} (pos : 0 < k) (inside : k < s.work.wdamp.length) :
    (nextDamper nan s).getD k 0 = s.work.wdamp.getD (k - 1) 0 := by
  rw [nextDamper, getD_set_ne pos.ne, getD_shiftDamper pos inside]

/-- The state in which the last sample step of a frame's main pass starts (R178 to R180). -/
def lastSample (mode : Mode) (s : State) : State :=
  sampleStart (operandsOf mode s) (drawsOf s) (loopStart mode s) 3 (s.cfg.steps - 1) (s.cfg.samplesPerStep - 1)

theorem sampleStep_lastSample_eq_mainPass (legal : s.cfg.wf) (mode : Mode) :
    sampleStep (operandsOf mode s) (drawsOf s) (lastSample mode s) = mainPass mode s := by
  obtain ⟨⟨-, steps, samples, -⟩, -⟩ := legal
  have last := sampleStep_lastSample (operandsOf mode s) (drawsOf s) (s := loopStart mode s) (by simpa using steps)
    (by simpa using samples)
  rw [loopStart_cfg] at last
  exact last

theorem lastSample_work_mode (legal : s.cfg.wf) (mode : Mode) : (lastSample mode s).work.mode = mode := by
  rw [← sampleStep_work_mode (operandsOf mode s) (drawsOf s), sampleStep_lastSample_eq_mainPass legal,
    mainPass_work_mode]

theorem lastSample_work_index (wf : s.wf) (mode : Mode) : (lastSample mode s).work.index = s.cfg.frameLen - 1 := by
  rw [← mainPass_work_index wf mode, ← sampleStep_lastSample_eq_mainPass wf.1, sampleStep_work_index,
    Nat.add_sub_cancel]

/-- R33, R181: DAMP is the damper memory after the frame's last sample step. -/
theorem mainPass_wdamp (legal : s.cfg.wf) (exports : mode ≠ .preGain) :
    (mainPass mode s).work.wdamp = nextDamper (drawsOf s) (lastSample mode s) := by
  rw [← sampleStep_lastSample_eq_mainPass legal]
  exact sampleStep_wdamp_of_ne (by rw [lastSample_work_mode legal]; exact exports)

theorem length_lastSample_wdamp (wf : s.wf) (exports : mode ≠ .preGain) :
    (lastSample mode s).work.wdamp.length = dampTaps := by
  obtain ⟨legal, mem, -⟩ := wf
  have size : (mainPass mode s).work.wdamp.length = dampTaps := (sized_runSubframes (sized_loopStart mem mode) _ _).2
  rw [← size, mainPass_wdamp legal exports, nextDamper, List.length_set, length_shiftDamper]

end Sys2Proof.Machine

namespace Sys2Proof.Proofs

open Machine in
/-- Settles O43: FilterState takes the working buffer's tail, which the sample steps' invariant describes, and the
damper memory of the last sample step. -/
theorem historyIsInputPlusOutput : Obligations.HistoryIsInputPlusOutput := by
  unfold Obligations.HistoryIsInputPlusOutput
  intro mode s t wf exports legal run
  have ⟨legalConfig, mem, _⟩ := wf
  cases (exec_frameInstr mode s).symm.trans run
  refine ⟨fun k inHistory => ⟨fun reached => ?_, fun inHistory => ?_⟩, ?_⟩
  · have := frameCommand_hist_made exports legal wf (j := s.cfg.frameLen + k - s.cfg.histLen) (by omega) (by omega)
    rwa [Nat.add_sub_cancel' reached, Nat.add_sub_cancel_left] at this
  · exact frameCommand_hist_imported exports legal mem inHistory
  have length := length_lastSample_wdamp wf exports
  refine ⟨?_, ?_, fun k pos inside => ?_⟩
  · rw [frameCommand_damp exports legal]
    exact congrArg (·.work.wdamp) (sampleStep_lastSample_eq_mainPass legalConfig mode).symm
  · rw [frameCommand_damp exports legal, mainPass_wdamp legalConfig exports, ← lastSample_work_index wf mode]
    exact nextDamper_newest (by rw [length]; decide)
  · rw [frameCommand_damp exports legal, mainPass_wdamp legalConfig exports]
    exact nextDamper_older pos (by rw [length]; exact inside)

end Sys2Proof.Proofs
end

section
/-! SUPPORT. Words as eight little-endian bytes (R73), and the register window: the rows of its map, the register each
offset decodes to, and the byte view. -/

namespace Sys2Proof

/-! ### words and their bytes -/

/-- The fold of `wordOfBytes` is the value of the bytes as digits in base 256. -/
theorem foldr_bytes_eq_ofDigits (bs : List Byte) :
    bs.foldr (fun b acc => b.toNat + 256 * acc) 0 = Nat.ofDigits 256 (bs.map BitVec.toNat) := by
  rw [Nat.ofDigits_eq_foldr, List.foldr_map]
  rfl

theorem ofDigits_bytes_lt (bs : List Byte) : Nat.ofDigits 256 (bs.map BitVec.toNat) < 256 ^ bs.length := by
  have small : ∀ d ∈ bs.map BitVec.toNat, d < 256 := by
    intro d hd
    obtain ⟨b, -, rfl⟩ := List.mem_map.mp hd
    exact b.isLt
  simpa using Nat.ofDigits_lt_base_pow_length (by decide) small

/-- Digit `i` of the value of a list of bytes is byte `i`. -/
theorem ofDigits_bytes_digit (bs : List Byte) {i : Nat} (inside : i < bs.length) :
    Nat.ofDigits 256 (bs.map BitVec.toNat) / 256 ^ i % 256 = bs[i].toNat := by
  induction bs generalizing i with
  | nil => cases inside
  | cons b bs ih =>
    rw [List.map_cons, Nat.ofDigits_cons]
    have byte : b.toNat < 256 := b.isLt
    cases i with
    | zero => simp; omega
    | succ i =>
      have shifted : (b.toNat + 256 * Nat.ofDigits 256 (bs.map BitVec.toNat)) / 256 =
          Nat.ofDigits 256 (bs.map BitVec.toNat) := by omega
      rw [Nat.pow_succ', ← Nat.div_div_eq_div_mul, shifted]
      exact ih (Nat.lt_of_succ_lt_succ inside)

@[simp] theorem length_bytesOfWord (v : Word) : (bytesOfWord v).length = 8 := by simp [bytesOfWord]

theorem toNat_byteOfWord (v : Word) (i : Nat) : (byteOfWord v i).toNat = v.toNat / 256 ^ i % 256 := by
  rw [byteOfWord, BitVec.extractLsb'_toNat, Nat.shiftRight_eq_div_pow, Nat.pow_mul]

theorem byteOfWord_wordOfBytes {bs : List Byte} (length : bs.length = 8) {i : Nat} (inside : i < bs.length) :
    byteOfWord (wordOfBytes bs) i = bs[i] := by
  have fits := ofDigits_bytes_lt bs
  rw [length, show 256 ^ 8 = 2 ^ 64 by decide] at fits
  apply BitVec.eq_of_toNat_eq
  rw [toNat_byteOfWord, wordOfBytes, foldr_bytes_eq_ofDigits, BitVec.toNat_ofNat, Nat.mod_eq_of_lt fits,
    ofDigits_bytes_digit bs inside]

theorem bytesOfWord_wordOfBytes {bs : List Byte} (length : bs.length = 8) : bytesOfWord (wordOfBytes bs) = bs := by
  refine List.ext_getElem (by simp [length]) fun i _ inside => ?_
  rw [← byteOfWord_wordOfBytes length inside]
  simp [bytesOfWord]

/-- A word's bytes determine it: bit `j` of the word is bit `j % 8` of byte `j / 8`. -/
theorem bytesOfWord_injective : Function.Injective bytesOfWord := by
  intro v w same
  have byte : ∀ i < 8, byteOfWord v i = byteOfWord w i := by simpa [bytesOfWord] using same
  have bit (u : Word) (j : Nat) : u.getLsbD j = (byteOfWord u (j / 8)).getLsbD (j % 8) := by
    simp [byteOfWord, Nat.mod_lt, Nat.div_add_mod]
  exact BitVec.eq_of_getLsbD_eq fun j inside => by rw [bit v, bit w, byte _ (by omega)]

theorem wordOfBytes_bytesOfWord (v : Word) : wordOfBytes (bytesOfWord v) = v :=
  bytesOfWord_injective (bytesOfWord_wordOfBytes (length_bytesOfWord v))

/-! ### the rows of the map -/

variable {c : Config}

theorem Region.regAt_eq_some_iff {q : Region} {off : Nat} {r : Reg} :
    q.regAt off = some r ↔ ∃ k < q.count, off = q.base + 8 * k ∧ r = q.reg k := by
  unfold Region.regAt
  constructor
  · intro h
    split at h
    case isTrue inside =>
      exact ⟨(off - q.base) / 8, by omega, by omega, (Option.some.inj h).symm⟩
    case isFalse => cases h
  · rintro ⟨k, inside, rfl, rfl⟩
    rw [if_pos (by omega)]
    congr
    omega

/-- Entry `k` of a row is a register of the map, `k` registers after the row's base (R71). -/
theorem regions_entry {q : Region} (row : q ∈ regions c) {k : Nat} (inside : k < q.count) :
    (q.reg k).inMap c = true ∧ offsetOf c (q.reg k) = q.base + 8 * k := by
  simp only [regions, List.mem_cons, List.not_mem_nil, or_false] at row
  rcases row with rfl | rfl | rfl | rfl | rfl | rfl | rfl | rfl | rfl | rfl | rfl | rfl | rfl | rfl | rfl | rfl
  all_goals
    simp only [Reg.inMap, offsetOf, subframes, decide_eq_true_eq, true_and, and_true] at inside ⊢
    omega

/-- Every register of the map is an entry of a row (R71). -/
theorem exists_region_of_inMap {r : Reg} (inMap : r.inMap c = true) :
    ∃ q ∈ regions c, ∃ k < q.count, q.reg k = r := by
  cases r
  case cmd => exact ⟨_, List.mem_of_getElem? (i := 0) rfl, 0, Nat.one_pos, rfl⟩
  case status => exact ⟨_, List.mem_of_getElem? (i := 1) rfl, 0, Nat.one_pos, rfl⟩
  case faultCause => exact ⟨_, List.mem_of_getElem? (i := 2) rfl, 0, Nat.one_pos, rfl⟩
  case faultInfo => exact ⟨_, List.mem_of_getElem? (i := 3) rfl, 0, Nat.one_pos, rfl⟩
  case lag k => exact ⟨_, List.mem_of_getElem? (i := 4) rfl, k, of_decide_eq_true inMap, rfl⟩
  case gain k => exact ⟨_, List.mem_of_getElem? (i := 5) rfl, k, of_decide_eq_true inMap, rfl⟩
  case input k => exact ⟨_, List.mem_of_getElem? (i := 6) rfl, k, of_decide_eq_true inMap, rfl⟩
  case output k => exact ⟨_, List.mem_of_getElem? (i := 7) rfl, k, of_decide_eq_true inMap, rfl⟩
  case trial j k =>
    obtain ⟨lane, inside⟩ : j < 4 ∧ k < c.segLen := of_decide_eq_true inMap
    have lanes : j = 0 ∨ j = 1 ∨ j = 2 ∨ j = 3 := by omega
    rcases lanes with rfl | rfl | rfl | rfl
    · exact ⟨_, List.mem_of_getElem? (i := 8) rfl, k, inside, rfl⟩
    · exact ⟨_, List.mem_of_getElem? (i := 9) rfl, k, inside, rfl⟩
    · exact ⟨_, List.mem_of_getElem? (i := 10) rfl, k, inside, rfl⟩
    · exact ⟨_, List.mem_of_getElem? (i := 11) rfl, k, inside, rfl⟩
  case hist k => exact ⟨_, List.mem_of_getElem? (i := 12) rfl, k, of_decide_eq_true inMap, rfl⟩
  case damp k => exact ⟨_, List.mem_of_getElem? (i := 13) rfl, k, of_decide_eq_true inMap, rfl⟩
  case lastLag => exact ⟨_, List.mem_of_getElem? (i := 14) rfl, 0, Nat.one_pos, rfl⟩
  case lastGain => exact ⟨_, List.mem_of_getElem? (i := 15) rfl, 0, Nat.one_pos, rfl⟩

theorem region_aligned_inside (usable : mapOk c = true) {q : Region} (row : q ∈ regions c) :
    q.base % 8 = 0 ∧ q.base + 8 * q.count ≤ windowBytes := by
  obtain ⟨rows, -⟩ := Bool.and_eq_true_iff.mp usable
  exact of_decide_eq_true (List.all_eq_true.mp rows q row)

/-- Two rows of a usable map that share an offset are the same row. -/
theorem region_unique (usable : mapOk c = true) {q p : Region} (rowQ : q ∈ regions c) (rowP : p ∈ regions c)
    {j k : Nat} (insideQ : j < q.count) (insideP : k < p.count) (same : q.base + 8 * j = p.base + 8 * k) : q = p := by
  obtain ⟨-, rows⟩ := Bool.and_eq_true_iff.mp usable
  have symmetric : Std.Symm fun r q : Region => r.disjoint q = true :=
    ⟨fun a b h => by simpa [Region.disjoint, or_comm] using h⟩
  by_contra differ
  have apart := (of_decide_eq_true rows).forall rowQ rowP differ
  simp only [Region.disjoint, decide_eq_true_eq] at apart
  omega

/-! ### decoding offsets -/

/-- A register found at an offset is the entry of a row that lies there (R71). -/
theorem exists_region_of_decodeOffset {off : Nat} {r : Reg} (h : decodeOffset c off = some r) :
    ∃ q ∈ regions c, ∃ k < q.count, off = q.base + 8 * k ∧ r = q.reg k := by
  obtain ⟨q, row, found⟩ := List.exists_of_findSome?_eq_some h
  exact ⟨q, row, Region.regAt_eq_some_iff.mp found⟩

theorem inMap_of_decodeOffset {off : Nat} {r : Reg} (h : decodeOffset c off = some r) :
    r.inMap c = true ∧ offsetOf c r = off := by
  obtain ⟨q, row, k, inside, rfl, rfl⟩ := exists_region_of_decodeOffset h
  exact regions_entry row inside

theorem decodeOffset_entry (usable : mapOk c = true) {q : Region} (row : q ∈ regions c) {k : Nat}
    (inside : k < q.count) : decodeOffset c (q.base + 8 * k) = some (q.reg k) := by
  have here : q.regAt (q.base + 8 * k) = some (q.reg k) := Region.regAt_eq_some_iff.mpr ⟨k, inside, rfl, rfl⟩
  cases h : decodeOffset c (q.base + 8 * k) with
  | none => rw [List.findSome?_eq_none_iff.mp h q row] at here; cases here
  | some r =>
    obtain ⟨p, rowP, j, insideP, same, rfl⟩ := exists_region_of_decodeOffset h
    obtain rfl := region_unique usable row rowP inside insideP same
    obtain rfl : k = j := by omega
    rfl

/-- Each register of a usable map is aligned, inside the window, and found at its offset (R71). -/
theorem offsetOf_spec (usable : mapOk c = true) {r : Reg} (inMap : r.inMap c = true) :
    offsetOf c r % 8 = 0 ∧ offsetOf c r < windowBytes ∧ decodeOffset c (offsetOf c r) = some r := by
  obtain ⟨q, row, k, inside, rfl⟩ := exists_region_of_inMap inMap
  obtain ⟨aligned, fits⟩ := region_aligned_inside usable row
  rw [(regions_entry row inside).2]
  exact ⟨by omega, by omega, decodeOffset_entry usable row inside⟩

theorem mapOk_of_wf (legal : c.wf) : mapOk c = true := by
  obtain ⟨-, -, -, -, -, -, usable, -⟩ := legal
  exact usable

namespace Machine

/-- The byte view shows byte `i` of the register at each of its eight offsets (R73). -/
theorem windowByte_offsetOf {s : State} (legal : s.cfg.wf) {r : Reg} (inMap : r.inMap s.cfg = true) {i : Nat}
    (inside : i < 8) : windowByte s (offsetOf s.cfg r + i) = some (byteOfWord (peek s r) i) := by
  obtain ⟨aligned, -, decoded⟩ := offsetOf_spec (mapOk_of_wf legal) inMap
  have lane : (offsetOf s.cfg r + i) % 8 = i := by omega
  rw [windowByte, lane, Nat.add_sub_cancel, decoded]
  rfl

end Machine

end Sys2Proof

namespace Sys2Proof.Proofs

/-- Settles O3: a word and its bytes as digits in base 256. -/
theorem wordBytesRoundTrip : Obligations.WordBytesRoundTrip := by
  unfold Obligations.WordBytesRoundTrip
  exact ⟨fun v => ⟨length_bytesOfWord v, wordOfBytes_bytesOfWord v⟩, fun _ => bytesOfWord_wordOfBytes⟩

/-- Settles O52: the registers of the map are the entries of its rows, which share no offset. -/
theorem registerMapIsOneToOne : Obligations.RegisterMapIsOneToOne := by
  unfold Obligations.RegisterMapIsOneToOne
  exact fun c legal => ⟨fun _ => offsetOf_spec (mapOk_of_wf legal), fun _ _ => inMap_of_decodeOffset⟩

/-- Settles O53: the byte view decodes the aligned offset below. -/
theorem windowIsLittleEndian : Obligations.WindowIsLittleEndian := by
  unfold Obligations.WindowIsLittleEndian
  exact fun _ _ _ legal inMap inside => Machine.windowByte_offsetOf legal inMap inside

end Sys2Proof.Proofs
end

section
/-! SUPPORT. One rule per host access by the register it reaches: what an address reaches, which violation the access
is, and the state it leaves (R74 to R79, R232); and the steps of the block's turn. -/

namespace Sys2Proof.Machine

variable {s : State} {r : Reg} {addr width : Nat} {v : Word} {rest : List Event}

/-! ### the register an access reaches -/

/-- Each register of the map is reached at its address (R71). -/
theorem accessReg_addressOf {c : Config} (legal : c.wf) (inMap : r.inMap c = true) :
    accessReg c (addressOf c r) 8 = some r := by
  obtain ⟨aligned, inside, decoded⟩ := offsetOf_spec (mapOk_of_wf legal) inMap
  rw [accessReg, addressOf, Nat.add_sub_cancel_left, if_pos ⟨rfl, Nat.le_add_right _ _, inside, aligned⟩, decoded]

/-- A narrow, misaligned or unmapped access reaches no register (R74, R75). -/
theorem accessReg_undefined {c : Config} {off : Nat} (undefined : width ≠ 8 ∨ off % 8 ≠ 0 ∨ decodeOffset c off = none) :
    accessReg c (c.pfBase + off) width = none := by
  unfold accessReg
  rw [Nat.add_sub_cancel_left]
  split
  case isTrue defined =>
    obtain ⟨wide, -, -, aligned⟩ := defined
    rcases undefined with narrow | misaligned | unmapped
    · exact absurd wide narrow
    · exact absurd aligned misaligned
    · exact unmapped
  case isFalse => rfl

theorem readableWhileBusy_iff :
    r.readableWhileBusy = true ↔ r = .cmd ∨ r = .status ∨ r = .faultCause ∨ r = .faultInfo := by
  cases r <;> simp [Reg.readableWhileBusy]

/-- Only LAG, GAIN, IN, OUT and TRIAL can be unmarked (R49). -/
theorem marked_of_not_hasMark (unmarked : hasMark r = false) (s : State) : marked s r = true := by
  cases r
  case lag | gain | input | output | trial => cases unmarked
  all_goals rfl

theorem marked_of_hasMark (readable : hasMark r = true → marked s r = true) : marked s r = true := by
  cases kind : hasMark r with
  | true => exact readable kind
  | false => exact marked_of_not_hasMark kind s

theorem marked_of_readableWhileBusy (readable : r.readableWhileBusy = true) (s : State) : marked s r = true := by
  rcases readableWhileBusy_iff.mp readable with rfl | rfl | rfl | rfl <;> rfl

/-! The events to come and the values returned are no part of the window. -/

@[simp] theorem peek_withInputs (s : State) (rest : List Event) (r : Reg) :
    peek { s with inputs := rest } r = peek s r := by
  cases r <;> rfl

@[simp] theorem marked_withInputs (s : State) (rest : List Event) (r : Reg) :
    marked { s with inputs := rest } r = marked s r := by
  cases r <;> rfl

@[simp] theorem peek_respond (v : Word) (s : State) (r : Reg) : peek (respond v s) r = peek s r := by
  cases r <;> rfl

@[simp] theorem marked_respond (v : Word) (s : State) (r : Reg) : marked (respond v s) r = marked s r := by
  cases r <;> rfl

/-! ### the violation of an access -/

theorem readViolation_of_none (unreached : accessReg s.cfg addr width = none) :
    readViolation s addr width = some .accessFault := by
  rw [readViolation, unreached]

theorem readViolation_of_some (reached : accessReg s.cfg addr width = some r) :
    readViolation s addr width =
      if s.busy = true ∧ r.readableWhileBusy = false then some .busyAccess
      else if marked s r then none else some .unwrittenRead := by
  rw [readViolation, reached]

/-- A read of an idle block is a violation only where the register's mark is clear (R49). -/
theorem readViolation_idle (reached : accessReg s.cfg addr width = some r) (idle : s.busy = false) :
    readViolation s addr width = if marked s r then none else some .unwrittenRead := by
  simp [readViolation_of_some reached, idle]

theorem writeViolation_of_none (unreached : accessReg s.cfg addr width = none) :
    writeViolation s addr width = some .accessFault := by
  rw [writeViolation, unreached]

theorem writeViolation_of_some (reached : accessReg s.cfg addr width = some r) :
    writeViolation s addr width =
      if r.readOnly then some .accessFault else if s.busy then some .busyAccess else none := by
  rw [writeViolation, reached]

/-! ### the state an access leaves -/

theorem hostRead_of_violation {w : Violation} (violation : readViolation s addr width = some w) :
    hostRead addr width s = respondFree (violate w s) := by
  rw [hostRead, violation]

theorem hostRead_of_defined (defined : readViolation s addr width = none)
    (reached : accessReg s.cfg addr width = some r) : hostRead addr width s = respond (peek s r) s := by
  rw [hostRead, defined, reached]

theorem hostWrite_of_violation {w : Violation} (violation : writeViolation s addr width = some w) :
    hostWrite addr width v s = violate w s := by
  rw [hostWrite, violation]

/-- A write to a writable register of an idle block is performed (R76, R79). -/
theorem hostWrite_of_defined (reached : accessReg s.cfg addr width = some r) (writable : r.readOnly = false)
    (idle : s.busy = false) : hostWrite addr width v s = storeReg r v s := by
  have defined : writeViolation s addr width = none := by simp [writeViolation_of_some reached, writable, idle]
  rw [hostWrite, defined, reached]

/-- A read answers one value, and is the register's where it is no violation (R78). -/
theorem hostRead_response (addr width : Nat) (s : State) :
    ∃ v, (hostRead addr width s).responses = v :: s.responses ∧
      (readViolation s addr width = none →
        (∃ r, accessReg s.cfg addr width = some r ∧ v = peek s r) ∧ (hostRead addr width s).record = s.record) := by
  rcases hostRead_cases addr width s with ⟨w, violation, h⟩ | ⟨r, -, reached, -, -, h⟩ <;> rw [h]
  · exact ⟨_, rfl, fun defined => by rw [violation] at defined; cases defined⟩
  · exact ⟨_, rfl, fun _ => ⟨⟨r, reached, rfl⟩, rfl⟩⟩

theorem sameDataRegisters_hostRead (addr width : Nat) (s : State) :
    sameDataRegisters s (hostRead addr width s) := by
  rcases hostRead_cases addr width s with ⟨w, -, h⟩ | ⟨r, -, -, -, -, h⟩ <;> rw [h] <;> exact ⟨rfl, rfl, rfl, rfl, rfl⟩

theorem sameControl_hostRead (addr width : Nat) (s : State) : sameControl s (hostRead addr width s) := by
  rcases hostRead_cases addr width s with ⟨w, -, h⟩ | ⟨r, -, -, -, -, h⟩ <;> rw [h] <;> exact ⟨rfl, rfl, rfl, rfl, rfl⟩

theorem work_hostRead (addr width : Nat) (s : State) : (hostRead addr width s).work = s.work := by
  rcases hostRead_cases addr width s with ⟨w, -, h⟩ | ⟨r, -, -, -, -, h⟩ <;> rw [h] <;> rfl

/-! ### stores -/

@[simp] theorem poke_cfg (r : Reg) (v : Word) (s : State) : (poke r v s).cfg = s.cfg := by cases r <;> rfl
@[simp] theorem poke_record (r : Reg) (v : Word) (s : State) : (poke r v s).record = s.record := by cases r <;> rfl
@[simp] theorem poke_inputs (r : Reg) (v : Word) (s : State) : (poke r v s).inputs = s.inputs := by cases r <;> rfl
@[simp] theorem poke_responses (r : Reg) (v : Word) (s : State) : (poke r v s).responses = s.responses := by
  cases r <;> rfl
@[simp] theorem poke_busy (r : Reg) (v : Word) (s : State) : (poke r v s).busy = s.busy := by cases r <;> rfl

/-- A host store marks its register (R49). -/
theorem marked_poke_self (mem : Memory.wf s) (inMap : r.inMap s.cfg = true) (writable : r.readOnly = false)
    (v : Word) : marked (poke r v s) r = true := by
  obtain ⟨-, -, lag, gain, input, -⟩ := mem
  cases r
  case lag | gain | input => simp_all [marked, poke, Reg.inMap]
  case output | trial => cases writable
  all_goals rfl

/-! ### the steps -/

theorem step_of_read (h : s.inputs = .read addr width :: rest) :
    step s = .next (hostRead addr width { s with inputs := rest }) := by
  rw [step, h]

theorem step_of_write (h : s.inputs = .write addr width v :: rest) :
    step s = .next (hostWrite addr width v { s with inputs := rest }) := by
  rw [step, h]

/-- A violating write is recorded and nothing else changes (R232). -/
theorem step_of_write_violation {w : Violation} (event : s.inputs = .write addr width v :: rest)
    (violation : writeViolation s addr width = some w) :
    step s = .next { s with inputs := rest, record := s.record ++ [w] } := by
  rw [step_of_write event, hostWrite_of_violation (s := { s with inputs := rest }) violation]
  rfl

/-- A write to a writable register of an idle block, CMD apart, stores its value (R76). -/
theorem step_of_write_defined (event : s.inputs = .write addr width v :: rest)
    (reached : accessReg s.cfg addr width = some r) (writable : r.readOnly = false) (idle : s.busy = false)
    (notCmd : r ≠ .cmd) : step s = .next (poke r v { s with inputs := rest }) := by
  rw [step_of_write event, hostWrite_of_defined (s := { s with inputs := rest }) reached writable idle,
    storeReg_of_ne notCmd]

/-- A violating read is recorded and changes no register (R232). -/
theorem step_of_read_violation {w : Violation} (event : s.inputs = .read addr width :: rest)
    (violation : readViolation s addr width = some w) :
    ∃ t, step s = .next t ∧ t.record = s.record ++ [w] ∧ t.inputs = rest ∧
      sameFilterState s t ∧ sameDataRegisters s t ∧ sameControl s t ∧ t.work = s.work := by
  refine ⟨_, step_of_read event, ?_, hostRead_inputs _ _ _, sameFilterState_hostRead _ _ _,
    sameDataRegisters_hostRead _ _ _, sameControl_hostRead _ _ _, work_hostRead _ _ _⟩
  rw [hostRead_of_violation (s := { s with inputs := rest }) violation]
  rfl

/-- A read that is no violation answers the register's value and changes nothing else (R78). -/
theorem step_of_read_defined (event : s.inputs = .read addr width :: rest)
    (defined : readViolation s addr width = none) (reached : accessReg s.cfg addr width = some r) :
    step s = .next (respond (peek s r) { s with inputs := rest }) := by
  rw [step_of_read event, hostRead_of_defined (s := { s with inputs := rest }) defined reached, peek_withInputs]

/-- The read after a store answers the word stored (R76, R49). -/
theorem step_of_read_poke (legal : s.cfg.wf) (mem : Memory.wf s) (inMap : r.inMap s.cfg = true)
    (writable : r.readOnly = false) (idle : s.busy = false) (notCmd : r ≠ .cmd)
    (event : s.inputs = .read (addressOf s.cfg r) 8 :: rest) :
    step (poke r v s) = .next (respond v { poke r v s with inputs := rest }) := by
  have reached : accessReg (poke r v s).cfg (addressOf s.cfg r) 8 = some r := by
    rw [poke_cfg]
    exact accessReg_addressOf legal inMap
  have defined : readViolation (poke r v s) (addressOf s.cfg r) 8 = none := by
    rw [readViolation_idle reached (by rw [poke_busy, idle]), if_pos (marked_poke_self mem inMap writable v)]
  rw [step_of_read_defined (by rw [poke_inputs, event]) defined reached, peek_poke_self s r v mem inMap writable notCmd]

/-- On the block's turn a step takes the turn from the events and is `blockTurn` (R80). -/
theorem step_of_blockIsNext (next : blockIsNext s) : step s = blockTurn { s with inputs := s.inputs.tail } := by
  rcases next with empty | ⟨rest, block⟩
  · have same : { s with inputs := s.inputs.tail } = s := by rw [empty, List.tail_nil, ← empty]
    rw [same, step, empty]
  · rw [step, block, List.tail_cons]

theorem blockTurn_of_command {w : Word} {i : Instr} (pending : s.pending = some w) (decoded : decode w = .command i) :
    blockTurn s = exec i s := by
  rw [blockTurn, fetch, pending]
  dsimp only
  rw [decoded]

theorem exec_next (i : Instr) (s : State) : ∃ t, exec i s = .next t := by
  rcases exec_cases i s with ⟨mode, h⟩ | h | h <;> exact ⟨_, h⟩

theorem blockTurn_next (s : State) : ∃ t, blockTurn s = .next t := by
  rcases blockTurn_cases s with ⟨-, h⟩ | ⟨w, i, -, -, h⟩ | ⟨w, opc, -, -, h⟩
  · exact ⟨_, h⟩
  · rw [h]; exact exec_next i s
  · exact ⟨_, h⟩

theorem step_next (s : State) : ∃ t, step s = .next t := by
  unfold step
  split
  case h_1 | h_2 => exact blockTurn_next _
  all_goals exact ⟨_, rfl⟩

end Sys2Proof.Machine

namespace Sys2Proof.Proofs

open Machine

/-- Settles O55: an idle read of a register in the map is a violation only where the register's mark is clear. -/
theorem readsChangeNoRegister : Obligations.ReadsChangeNoRegister := by
  unfold Obligations.ReadsChangeNoRegister
  intro s addr width rest event
  obtain ⟨v, response, defined⟩ := hostRead_response addr width { s with inputs := rest }
  refine ⟨_, v, step_of_read event, hostRead_inputs _ _ _, response, sameFilterState_hostRead _ _ _,
    sameDataRegisters_hostRead _ _ _, sameControl_hostRead _ _ _, work_hostRead _ _ _, fun clean => ?_, ?_⟩
  · obtain ⟨⟨r, reached, value⟩, record⟩ := defined clean
    exact ⟨⟨r, reached, value.trans (peek_withInputs s rest r)⟩, record⟩
  rintro r legal inMap rfl rfl idle
  have reached := accessReg_addressOf legal inMap
  have violation := readViolation_idle reached idle
  refine ⟨fun readable => ?_, fun _ unmarked => ?_⟩
  · rw [if_pos (marked_of_hasMark readable)] at violation
    obtain ⟨⟨q, reachedToo, value⟩, record⟩ := defined violation
    obtain rfl : r = q := Option.some.inj (reached.symm.trans reachedToo)
    exact ⟨value.trans (peek_withInputs s rest r), record⟩
  · rw [if_neg (by simp [unmarked])] at violation
    rw [hostRead_of_violation (s := { s with inputs := rest }) violation]
    rfl

/-- Settles O56: such an access reaches no register, idle or busy. -/
theorem undefinedAccessesAreAccessFaults : Obligations.UndefinedAccessesAreAccessFaults := by
  unfold Obligations.UndefinedAccessesAreAccessFaults
  intro s off width v rest undefined
  have unreached := accessReg_undefined undefined
  exact ⟨fun event => step_of_write_violation event (writeViolation_of_none unreached),
    fun event => step_of_read_violation event (readViolation_of_none unreached)⟩

/-- Settles O57: the access column decides before BUSY does. -/
theorem readOnlyRegistersRefuseWrites : Obligations.ReadOnlyRegistersRefuseWrites := by
  unfold Obligations.ReadOnlyRegistersRefuseWrites
  intro s r v rest legal inMap readOnly event
  refine step_of_write_violation event ?_
  rw [writeViolation_of_some (accessReg_addressOf legal inMap), if_pos readOnly]

/-- Settles O58: the violation of each access to a busy block, and that the four registers have no mark. -/
theorem busyWindowAllowsFourReads : Obligations.BusyWindowAllowsFourReads := by
  unfold Obligations.BusyWindowAllowsFourReads
  intro s r v rest legal busy inMap
  have reached := accessReg_addressOf legal inMap
  refine ⟨fun writable event => step_of_write_violation event ?_, fun event other => ?_, fun event four => ?_⟩
  · simp [writeViolation_of_some reached, writable, busy]
  · have closed : r.readableWhileBusy = false := by simpa using mt readableWhileBusy_iff.mp other
    have violation : readViolation s (addressOf s.cfg r) 8 = some .busyAccess := by
      rw [readViolation_of_some reached, if_pos ⟨busy, closed⟩]
    obtain ⟨t, next, record, -, filterState, data, control, -⟩ := step_of_read_violation event violation
    exact ⟨t, next, record, filterState, data, control⟩
  · have readable := readableWhileBusy_iff.mpr four
    have defined : readViolation s (addressOf s.cfg r) 8 = none := by
      simp [readViolation_of_some reached, readable, marked_of_readableWhileBusy readable s]
    exact step_of_read_defined event defined reached

/-- Settles O59: the write is a `poke`, which marks its register, so that the read is defined. -/
theorem writtenRegistersReadBack : Obligations.WrittenRegistersReadBack := by
  unfold Obligations.WrittenRegistersReadBack
  intro s r v rest wf idle inMap writable notCmd events
  obtain ⟨legal, mem, -⟩ := wf
  have stored := step_of_write_defined events (accessReg_addressOf legal inMap) writable idle notCmd
  have answered := step_of_read_poke (v := v) (s := { s with inputs := .read (addressOf s.cfg r) 8 :: rest })
    legal mem inMap writable idle notCmd rfl
  refine ⟨_, _, stored, answered, rfl, ?_, ?_, ?_, fun q other => ?_⟩
  · simp
  · simp
  · rw [marked_respond, marked_withInputs]
    exact marked_poke_self (s := { s with inputs := .read (addressOf s.cfg r) 8 :: rest }) mem inMap writable v
  · rw [peek_respond, peek_withInputs, peek_poke_of_ne _ r q v other, peek_withInputs]

/-- Settles O5: the turn is taken from the events, and the block decodes what is pending. -/
theorem stepRunsTheDecodedCommand : Obligations.StepRunsTheDecodedCommand := by
  unfold Obligations.StepRunsTheDecodedCommand
  intro s w i next pending decoded _
  rw [step_of_blockIsNext next]
  exact blockTurn_of_command (s := { s with inputs := s.inputs.tail }) pending decoded

/-- Settles O7: a command, an illegal word, an idle turn, a host access and a reset each have a next state. -/
theorem everyStepHasANextState : Obligations.EveryStepHasANextState := by
  unfold Obligations.EveryStepHasANextState
  exact step_next

end Sys2Proof.Proofs
end

section
/-! SUPPORT. The decoder on every word (R101 to R103), the fault of an illegal word (R102, R235), and the polls of a
`wait` up to its end (R106). -/

namespace Sys2Proof

/-! ### the decoder -/

@[simp] theorem opcOf_encode (i : Instr) : opcOf (encode i) = opcodeOf i := by cases i <;> decide

@[simp] theorem rsvOf_encode (i : Instr) : rsvOf (encode i) = 0#60 := by cases i <;> decide

@[simp] theorem commandOf_opcodeOf (i : Instr) : commandOf (opcodeOf i) = some i := by cases i <;> rfl

/-- The opcodes of the map are 1 to 6 (R101). -/
theorem commandOf_isSome_iff (opc : BitVec 4) : (commandOf opc).isSome = true ↔ 1#4 ≤ opc ∧ opc ≤ 6#4 := by
  revert opc
  decide

theorem decode_of_commandOf {v : Word} {i : Instr} (reserved : rsvOf v = 0#60)
    (selected : commandOf (opcOf v) = some i) : decode v = .command i := by
  rw [decode, if_pos reserved, selected]

@[simp] theorem decode_encode (i : Instr) : decode (encode i) = .command i :=
  decode_of_commandOf (rsvOf_encode i) (by rw [opcOf_encode, commandOf_opcodeOf])

theorem decode_eq_command_iff {v : Word} {i : Instr} : decode v = .command i ↔ v = encode i :=
  ⟨Machine.eq_encode_of_decode, fun h => h ▸ decode_encode i⟩

/-- A word that is no command's is illegal, reported by its bits 3:0 (R102, R103). -/
theorem decode_of_ne_encode {v : Word} (other : ∀ i, v ≠ encode i) : decode v = .illegalCommand (opcOf v) := by
  by_cases reserved : rsvOf v = 0#60
  · cases selected : commandOf (opcOf v) with
    | some i => exact absurd (Machine.eq_encode_of_decode (decode_of_commandOf reserved selected)) (other i)
    | none => rw [decode, if_pos reserved, selected]
  · rw [decode, if_neg reserved]

/-- The command words are those with `RSV = 0` and `OPC` in 1..6 (R101). -/
theorem exists_eq_encode_iff {v : Word} :
    (∃ i, v = encode i) ↔ rsvOf v = 0#60 ∧ 1#4 ≤ opcOf v ∧ opcOf v ≤ 6#4 := by
  rw [← commandOf_isSome_iff]
  constructor
  · rintro ⟨i, rfl⟩
    simp
  · rintro ⟨reserved, inMap⟩
    obtain ⟨i, selected⟩ := Option.isSome_iff_exists.mp inMap
    exact ⟨i, decode_eq_command_iff.mp (decode_of_commandOf reserved selected)⟩

/-- The three kinds of illegal word (R102). -/
theorem decode_of_illegal {v : Word} (illegal : rsvOf v ≠ 0#60 ∨ opcOf v = 0#4 ∨ 7#4 ≤ opcOf v) :
    decode v = .illegalCommand (opcOf v) := by
  refine decode_of_ne_encode (not_exists.mp fun command => ?_)
  obtain ⟨reserved, low, high⟩ := exists_eq_encode_iff.mp command
  rcases illegal with nonzero | zero | above
  · exact nonzero reserved
  · rw [zero] at low
    exact absurd low (by decide)
  · exact absurd (BitVec.le_trans above high) (by decide)

theorem decodeBytes_bytesOfWord (v : Word) : decodeBytes (bytesOfWord v) = decode v := by
  rw [decodeBytes, if_pos (length_bytesOfWord v), wordOfBytes_bytesOfWord]

namespace Machine

variable {s t : State} {w : Word} {rest : List Event}

/-! ### the fault of an illegal word -/

theorem blockTurn_of_illegal {opc : BitVec 4} (pending : s.pending = some w)
    (decoded : decode w = .illegalCommand opc) : blockTurn s = .next (takeFault (illegalCommandFault opc) s) := by
  rw [blockTurn, fetch, pending]
  dsimp only
  rw [decoded]

/-- An opcode fits in FAULT_INFO (R45, R102). -/
theorem infoWord_toNat (opc : BitVec 4) : infoWord opc.toNat = opc.setWidth 64 := by
  apply BitVec.eq_of_toNat_eq
  have := opc.isLt
  simp only [infoWord, BitVec.toNat_setWidth, BitVec.toNat_ofNat]
  omega

/-! ### a command ends -/

/-- In `t` the block is idle with nothing pending, and the events and the values returned are those of `s`. -/
def CommandOver (s t : State) : Prop :=
  t.busy = false ∧ t.pending = none ∧ t.inputs = s.inputs ∧ t.responses = s.responses

theorem commandOver_complete (inputs : t.inputs = s.inputs) (responses : t.responses = s.responses) :
    CommandOver s (complete t) :=
  ⟨complete_busy t, rfl, inputs, responses⟩

theorem commandOver_takeFault (f : CommandFault) (inputs : t.inputs = s.inputs)
    (responses : t.responses = s.responses) : CommandOver s (takeFault f t) :=
  ⟨takeFault_busy f t, rfl, inputs, responses⟩

theorem commandOver_frameCommand (mode : Mode) (s : State) : CommandOver s (frameCommand mode s) := by
  rcases frameCommand_cases mode s with ⟨f, -, h⟩ | ⟨-, h⟩ <;> rw [h]
  · exact commandOver_takeFault f (noteOperands_inputs mode s) (noteOperands_responses mode s)
  · exact commandOver_complete (by simp) (by simp)

/-- The block's turn ends the pending command, completed or faulted (R200, R201). -/
theorem commandOver_blockTurn (pending : s.pending = some w) (h : blockTurn s = .next t) : CommandOver s t := by
  rcases blockTurn_next_cases h with ⟨idle, -⟩ | ⟨mode, -, rfl⟩ | ⟨-, rfl⟩ | ⟨-, rfl⟩ | ⟨opc, rfl⟩
  · rw [pending] at idle; cases idle
  · exact commandOver_frameCommand mode s
  · exact commandOver_complete rfl rfl
  · exact commandOver_complete rfl rfl
  · exact commandOver_takeFault _ rfl rfl

/-! ### the polls of a wait -/

/-- STATUS may be read at any time, busy or idle (R79). -/
theorem hostRead_status (legal : s.cfg.wf) :
    hostRead (s.cfg.pfBase + offsetOf s.cfg .status) 8 s = respond s.status s := by
  have reached : accessReg s.cfg (s.cfg.pfBase + offsetOf s.cfg .status) 8 = some .status :=
    accessReg_addressOf legal rfl
  have defined : readViolation s (s.cfg.pfBase + offsetOf s.cfg .status) 8 = none := by
    simp [readViolation_of_some reached, Reg.readableWhileBusy, marked]
  exact hostRead_of_defined defined reached

theorem step_of_wait {polls : Nat} (event : s.inputs = .wait polls :: rest) :
    step s = .next (hostWait polls { s with inputs := rest }) := by
  rw [step, event]

/-- The events a poll of a busy block leaves to come: the next poll, the block's turn before the last (log entry 18). -/
def afterBusyPoll (rest : List Event) : Nat → List Event
  | 0 => .block :: .wait 0 :: rest
  | k + 1 => .wait k :: rest

theorem hostWait_of_busy (legal : s.cfg.wf) (busy : s.busy = true) (polls : Nat) :
    hostWait polls s = { respond s.status s with inputs := afterBusyPoll s.inputs polls } := by
  unfold hostWait
  rw [hostRead_status legal, if_pos busy]
  cases polls <;> rfl

theorem hostWait_of_idle (legal : s.cfg.wf) (idle : s.busy = false) (polls : Nat) :
    hostWait polls s = respond s.status s := by
  unfold hostWait
  rw [hostRead_status legal, if_neg (by simp [idle])]

/-- A poll of a busy block answers STATUS, and the polling goes on. -/
theorem step_of_wait_busy (legal : s.cfg.wf) (busy : s.busy = true) {polls : Nat}
    (event : s.inputs = .wait polls :: rest) :
    step s = .next { respond s.status s with inputs := afterBusyPoll rest polls } := by
  rw [step_of_wait event, hostWait_of_busy (s := { s with inputs := rest }) legal busy]
  rfl

/-- The first poll that finds the block idle ends the wait (R106). -/
theorem step_of_wait_idle (legal : s.cfg.wf) (idle : s.busy = false) {polls : Nat}
    (event : s.inputs = .wait polls :: rest) :
    step s = .next { s with inputs := rest, responses := s.status :: s.responses } := by
  rw [step_of_wait event, hostWait_of_idle (s := { s with inputs := rest }) legal idle]
  rfl

theorem run_succ_of_step {M : Host.Core} {s t : M.State} (next : M.step s = .next t) (n : Nat) :
    M.run (n + 1) s = M.run n t := by
  rw [Host.Core.run, next]

/-- The block's turn and the poll after it end a wait whose busy polls are used up. -/
theorem run_block_wait (legal : s.cfg.wf) (pending : s.pending = some w)
    (events : s.inputs = .block :: .wait 0 :: rest) :
    ∃ t, core.run 2 s = .next t ∧ t.inputs = rest ∧ t.busy = false ∧ t.pending = none ∧
      t.responses = t.status :: s.responses := by
  obtain ⟨u, turn⟩ := step_next s
  have performed : blockTurn { s with inputs := .wait 0 :: rest } = .next u := by
    rw [← turn, step_of_blockIsNext (.inr ⟨_, events⟩), events, List.tail_cons]
  obtain ⟨idle, unpended, inputs, responses⟩ :=
    commandOver_blockTurn (s := { s with inputs := .wait 0 :: rest }) pending performed
  obtain ⟨cfg, -⟩ := keeps_step turn
  have polled := step_of_wait_idle (cfg ▸ legal) idle inputs
  exact ⟨_, (run_succ_of_step (M := core) turn 1).trans (run_succ_of_step (M := core) polled 0), rfl, idle, unpended,
    congrArg (u.status :: ·) responses⟩

/-- Each of the `polls + 1` busy polls answers the same STATUS, and then the block has its turn (R106, R80). -/
theorem run_wait (polls : Nat) (legal : s.cfg.wf) (busy : s.busy = true) (pending : s.pending = some w)
    (event : s.inputs = .wait polls :: rest) :
    ∃ t, core.run (polls + 3) s = .next t ∧ t.inputs = rest ∧ t.busy = false ∧ t.pending = none ∧
      t.responses = t.status :: (List.replicate (polls + 1) s.status ++ s.responses) := by
  induction polls generalizing s with
  | zero =>
    rw [run_succ_of_step (M := core) (step_of_wait_busy legal busy event)]
    exact run_block_wait (s := { respond s.status s with inputs := afterBusyPoll rest 0 }) legal pending rfl
  | succ k ih =>
    rw [run_succ_of_step (M := core) (step_of_wait_busy legal busy event), List.replicate_succ', List.append_assoc]
    exact ih (s := { respond s.status s with inputs := afterBusyPoll rest (k + 1) }) legal busy pending rfl

end Machine

end Sys2Proof

namespace Sys2Proof.Proofs

open Machine

/-- Settles O1: a word is a command's exactly when the decoder answers that command. -/
theorem decodeSelectsExactlyTheMap : Obligations.DecodeSelectsExactlyTheMap := by
  unfold Obligations.DecodeSelectsExactlyTheMap
  exact fun _ => ⟨fun _ => decode_eq_command_iff, decode_of_ne_encode, exists_eq_encode_iff⟩

/-- Settles O6: the decoder rejects the word, and taking its fault writes the status registers only. -/
theorem illegalWordTakesItsFault : Obligations.IllegalWordTakesItsFault := by
  unfold Obligations.IllegalWordTakesItsFault
  intro s w next pending illegal
  have turn := blockTurn_of_illegal (s := { s with inputs := s.inputs.tail }) pending (decode_of_illegal illegal)
  refine ⟨_, (step_of_blockIsNext next).trans turn, ?_⟩
  exact ⟨takeFault_busy _ _, takeFault_done _ _, takeFault_faulted _ _, rfl, rfl, infoWord_toNat _, rfl,
    ⟨rfl, rfl, rfl, rfl⟩, ⟨rfl, rfl, rfl, rfl, rfl⟩, rfl, rfl, rfl, rfl, rfl, rfl⟩

/-- Settles O60: by induction on the busy polls; a busy block has a command pending, which its turn ends. -/
theorem waitTerminates : Obligations.WaitTerminates := by
  unfold Obligations.WaitTerminates
  intro s polls rest ⟨legal, _, control⟩ event
  obtain ⟨-, -, -, held, -⟩ := control
  exact ⟨fun busy => run_wait polls legal busy (held busy).1 event, fun idle => step_of_wait_idle legal idle event⟩

/-- Settles O2: the bytes of a word are read back as the word, and the decoder inverts `encode`. -/
theorem encodedBytesDecode : Obligations.EncodedBytesDecode := by
  unfold Obligations.EncodedBytesDecode
  intro i _
  rw [decodeBytes_bytesOfWord, decode_encode]

/-- Settles O4: the first six words are the encoded commands; of the others two have `OPC` outside the map and two have
a reserved bit set. -/
theorem opcodeMapWordsDecode : Obligations.OpcodeMapWordsDecode := by
  unfold Obligations.OpcodeMapWordsDecode
  exact ⟨decode_encode .pfPre, decode_encode .pfPreLa, decode_encode .pfPreGain, decode_encode .pfPost,
    decode_encode .pfInit, decode_encode .pfClrstat,
    decode_of_illegal (.inr (.inl (by decide))), decode_of_illegal (.inr (.inr (by decide))),
    decode_of_illegal (.inl (by decide)), decode_of_illegal (.inl (by decide))⟩

end Sys2Proof.Proofs
end

section
/-! SUPPORT. What the sample step stores (R127, R129), and that the steps, sub-frames and phases after it leave the
stored samples alone: an ordering of states that every one of them respects. -/

namespace Sys2Proof.Machine

variable {o : Operands} {nan : Draws} {mode : Mode} {s t u : State}

/-! ### what a sample step stores -/

theorem trialStep_of_preGain (search : s.work.mode = .preGain) :
    trialStep nan s = { s with
      trial := (List.range subframes).map (nextTrialLane nan s)
      work := { s.work with ddg := (List.range subframes).map (nextTrialDamper nan s) } } := if_pos search

/-- The trial path leaves every element the output sample reads (R128, R129). -/
@[simp] theorem outputSample_trialStep (o : Operands) (nan : Draws) (s : State) :
    outputSample o nan (trialStep nan s) = outputSample o nan s := by
  unfold trialStep
  split <;> rfl

theorem sampleStep_output (o : Operands) (nan : Draws) (s : State) :
    (sampleStep o nan s).output = s.output.set s.work.index ⟨outputSample o nan s, true⟩ := by
  rw [sampleStep, mainStep_output, outputSample_trialStep, trialStep_work_index, trialStep_output]

theorem sampleStep_trial (o : Operands) (nan : Draws) (s : State) :
    (sampleStep o nan s).trial = (trialStep nan s).trial := by
  rw [sampleStep, mainStep_trial]

theorem trialStep_lane (search : s.work.mode = .preGain) {j : Nat} (lane : j < subframes) :
    (trialStep nan s).trial.getD j [] = nextTrialLane nan s j := by
  rw [trialStep_of_preGain search]
  simp [lane]

theorem nextTrialLane_of_le {j : Nat} (active : j ≤ s.work.sub) :
    nextTrialLane nan s j = (s.trial.getD j []).set s.work.index ⟨trialSample nan s j, true⟩ := if_pos active

theorem nextTrialLane_of_lt {j : Nat} (passive : s.work.sub < j) : nextTrialLane nan s j = s.trial.getD j [] :=
  if_neg (not_le.mpr passive)

/-- The trial path writes a lane at INDEX only (R127). -/
theorem trialStep_lane_of_ne {j k : Nat} (lane : j < subframes) (other : k ≠ s.work.index) :
    ((trialStep nan s).trial.getD j [])[k]? = (s.trial.getD j [])[k]? := by
  by_cases search : s.work.mode = .preGain
  · rw [trialStep_lane search lane]
    rcases le_or_gt j s.work.sub with active | passive
    · rw [nextTrialLane_of_le active, List.getElem?_set_ne other.symm]
    · rw [nextTrialLane_of_lt passive]
  · rw [trialStep_of_ne search]

theorem sampleStep_output_self (inside : s.work.index < s.output.length) :
    (sampleStep o nan s).output[s.work.index]? = some ⟨outputSample o nan s, true⟩ := by
  rw [sampleStep_output, List.getElem?_set_self inside]

theorem length_trial_lane (mem : Memory.wf s) {j : Nat} (lane : j < subframes) :
    (s.trial.getD j []).length = s.cfg.segLen := by
  obtain ⟨-, -, -, -, -, -, lanes, lengths⟩ := mem
  rw [List.getD_eq_getElem _ _ (by rw [lanes]; exact lane)]
  exact lengths _ (List.getElem_mem _)

theorem sampleStep_trial_self (search : s.work.mode = .preGain) {j : Nat} (lane : j < subframes)
    (active : j ≤ s.work.sub) (inside : s.work.index < (s.trial.getD j []).length) :
    ((sampleStep o nan s).trial.getD j [])[s.work.index]? = some ⟨trialSample nan s j, true⟩ := by
  rw [sampleStep_trial, trialStep_lane search lane, nextTrialLane_of_le active, List.getElem?_set_self inside]

/-! ### the stored samples stay -/

/-- `t` comes after `s` in a frame: INDEX has not gone back, and in OUT and in every lane of TRIAL the samples before
the INDEX of `s` are those of `s`. -/
structure KeepsSamples (s t : State) : Prop where
  index : s.work.index ≤ t.work.index
  output : ∀ k, k < s.work.index → t.output[k]? = s.output[k]?
  trial : ∀ j k, j < subframes → k < s.work.index → (t.trial.getD j [])[k]? = (s.trial.getD j [])[k]?

theorem KeepsSamples.of_eq (index : t.work.index = s.work.index) (output : t.output = s.output)
    (trial : t.trial = s.trial) : KeepsSamples s t where
  index := index.ge
  output _ _ := by rw [output]
  trial _ _ _ _ := by rw [trial]

theorem KeepsSamples.refl (s : State) : KeepsSamples s s := .of_eq rfl rfl rfl

theorem KeepsSamples.trans (first : KeepsSamples s t) (second : KeepsSamples t u) : KeepsSamples s u where
  index := first.index.trans second.index
  output k below := (second.output k (below.trans_le first.index)).trans (first.output k below)
  trial j k lane below := (second.trial j k lane (below.trans_le first.index)).trans (first.trial j k lane below)

/-- A loop whose turns keep the samples keeps them from any of its turns on. -/
theorem KeepsSamples.forLoop {f : Nat → State → State} (turn : ∀ k b, KeepsSamples b (f k b)) {a b : Nat} (le : a ≤ b)
    (start : Nat) (s : State) : KeepsSamples (forLoop f a start s) (forLoop f b start s) := by
  obtain ⟨more, rfl⟩ := Nat.exists_eq_add_of_le le
  rw [forLoop_add]
  exact forLoop_keeps more _ (fun k _ before => before.trans (turn k _)) (.refl _)

theorem keepsSamples_sampleStep (o : Operands) (nan : Draws) (s : State) : KeepsSamples s (sampleStep o nan s) where
  index := by rw [sampleStep_work_index]; exact Nat.le_succ _
  output _ below := sampleStep_output_of_lt below
  trial _ _ lane below := by rw [sampleStep_trial, trialStep_lane_of_ne lane below.ne]

theorem keepsSamples_segment (o : Operands) (nan : Draws) {a b : Nat} (le : a ≤ b) (s : State) :
    KeepsSamples (segment o nan a s) (segment o nan b s) :=
  .forLoop (fun _ => keepsSamples_sampleStep o nan) le 0 s

theorem keepsSamples_segment_start (o : Operands) (nan : Draws) (n : Nat) (s : State) :
    KeepsSamples s (segment o nan n s) := keepsSamples_segment o nan (Nat.zero_le n) s

theorem keepsSamples_runStep (o : Operands) (nan : Draws) (n : Nat) (s : State) :
    KeepsSamples s (runStep o nan n s) :=
  .trans (t := update nan (advanceRamp nan n s)) (.of_eq (by simp) (by simp) (by simp))
    (keepsSamples_segment_start o nan _ _)

theorem keepsSamples_runSubframe (o : Operands) (nan : Draws) (m : Nat) (s : State) :
    KeepsSamples s (runSubframe o nan m s) :=
  .trans (t := setupSubframe o nan m s) (.of_eq rfl rfl rfl)
    (.forLoop (keepsSamples_runStep o nan) (Nat.zero_le s.cfg.steps) 0 _)

/-- The main pass keeps each sample from the end of its sample step on (R178 to R180). -/
theorem keepsSamples_runSubframes (o : Operands) (nan : Draws) {s : State} {m n i : Nat} (subframe : m < subframes)
    (step : n < s.cfg.steps) (sample : i < s.cfg.samplesPerStep) :
    KeepsSamples (sampleStep o nan (sampleStart o nan s m n i)) (runSubframes o nan s) := by
  have toStep : KeepsSamples (sampleStep o nan (sampleStart o nan s m n i))
      (segment o nan s.cfg.samplesPerStep (segmentStart o nan s m n)) := by
    rw [sampleStart, ← segment_last]
    exact keepsSamples_segment o nan sample _
  have toSubframe : KeepsSamples (segment o nan s.cfg.samplesPerStep (segmentStart o nan s m n))
      (forLoop (runSubframe o nan) (m + 1) 0 s) := by
    rw [segment_segmentStart, forLoop_last (runSubframe o nan), Nat.zero_add, runSubframe.eq_def o nan m,
      forLoop_runSubframe_cfg]
    exact .forLoop (keepsSamples_runStep o nan) step 0 _
  exact toStep.trans (toSubframe.trans (.forLoop (keepsSamples_runSubframe o nan) subframe 0 s))

theorem keepsSamples_exportFilterState (s : State) : KeepsSamples s (exportFilterState s) :=
  .of_eq (by simp) (by simp) (by simp)

theorem keepsSamples_runLookahead (o : Operands) (nan : Draws) (s : State) : KeepsSamples s (runLookahead o nan s) := by
  unfold runLookahead
  split
  · exact .trans (t := setupLookahead s) (.of_eq rfl rfl rfl) (keepsSamples_segment_start o nan _ _)
  · exact .refl s

/-! ### the samples of the schedule -/

section

variable (o : Operands) (nan : Draws) (s : State) (m n i : Nat)

@[simp] theorem segmentStart_cfg : (segmentStart o nan s m n).cfg = s.cfg := by simp [segmentStart]

@[simp] theorem sampleStart_cfg : (sampleStart o nan s m n i).cfg = s.cfg := by simp [sampleStart]

/-- INDEX at the sample, from the sub-frames, the steps and the samples before it (R180). -/
theorem sampleStart_work_index : (sampleStart o nan s m n i).work.index =
    s.work.index + s.cfg.subframeLen * m + s.cfg.samplesPerStep * n + i := by
  simp [sampleStart, segmentStart, Nat.mul_comm]

theorem sampleStart_work_sub : (sampleStart o nan s m n i).work.sub = m := by
  have steps := forLoop_frame (·.work.sub) n 0 (setupSubframe o nan m (forLoop (runSubframe o nan) m 0 s))
    fun n b => runStep_work_sub o nan n b
  simpa [sampleStart, segmentStart] using steps

theorem sampleStart_work_mode : (sampleStart o nan s m n i).work.mode = s.work.mode := by
  have steps := forLoop_frame (·.work.mode) n 0 (setupSubframe o nan m (forLoop (runSubframe o nan) m 0 s))
    fun n b => runStep_work_mode o nan n b
  have subframes := forLoop_frame (·.work.mode) m 0 s fun m b => runSubframe_work_mode o nan m b
  simpa [sampleStart, segmentStart, subframes] using steps

end

theorem memory_wf_segmentStart (mem : Memory.wf s) (o : Operands) (nan : Draws) (m n : Nat) :
    Memory.wf (segmentStart o nan s m n) := by
  have start : Memory.wf (forLoop (runSubframe o nan) m 0 s) :=
    forLoop_keeps m 0 (fun m _ h => memory_wf_runSubframe h o nan m) mem
  have steps : Memory.wf (forLoop (runStep o nan) n 0 (setupSubframe o nan m (forLoop (runSubframe o nan) m 0 s))) :=
    forLoop_keeps n 0 (fun n _ h => memory_wf_runStep h o nan n) (memory_wf_setupSubframe start o nan m)
  exact memory_wf_update (memory_wf_advanceRamp steps nan n) nan

theorem memory_wf_sampleStart (mem : Memory.wf s) (o : Operands) (nan : Draws) (m n i : Nat) :
    Memory.wf (sampleStart o nan s m n i) :=
  memory_wf_segment (memory_wf_segmentStart mem o nan m n) o nan i

/-- Every sample of the schedule lies in the frame (R9, R180). -/
theorem sample_lt_frameLen {c : Config} (frame : c.frameOk) {m n i : Nat} (subframe : m < subframes)
    (step : n < c.steps) (sample : i < c.samplesPerStep) :
    c.subframeLen * m + c.samplesPerStep * n + i < c.frameLen := by
  obtain ⟨frameLen, -⟩ := frame
  calc c.subframeLen * m + c.samplesPerStep * n + i
      < c.subframeLen * m + c.samplesPerStep * (n + 1) := by rw [Nat.mul_succ]; omega
    _ ≤ c.subframeLen * m + c.samplesPerStep * c.steps := Nat.add_le_add_left (Nat.mul_le_mul_left _ step) _
    _ = c.subframeLen * (m + 1) := by rw [Nat.mul_succ, Nat.mul_comm c.samplesPerStep]
    _ ≤ c.subframeLen * subframes := Nat.mul_le_mul_left _ subframe
    _ = c.frameLen := by rw [frameLen, Nat.mul_comm, Nat.mul_assoc]

/-! ### the samples a frame command leaves -/

/-- The output and, after gain search, the active lanes' trial samples of the sample step from `u` stand in `t`. -/
structure SampleStands (o : Operands) (nan : Draws) (u t : State) : Prop where
  output : t.output[u.work.index]? = some ⟨outputSample o nan u, true⟩
  trial : u.work.mode = .preGain → ∀ j, j < subframes → j ≤ u.work.sub →
    (t.trial.getD j [])[u.work.index]? = some ⟨trialSample nan u j, true⟩

/-- A sample stands wherever its step's samples are kept. -/
theorem sampleStands_of_keeps (mem : Memory.wf u) (inSegment : u.work.index < u.cfg.segLen)
    (keeps : KeepsSamples (sampleStep o nan u) t) : SampleStands o nan u t where
  output := by
    obtain ⟨-, -, -, -, -, outputs, -⟩ := mem
    rw [keeps.output _ (by simp), sampleStep_output_self (by rw [outputs]; exact inSegment)]
  trial search j lane active := by
    rw [keeps.trial j _ lane (by simp),
      sampleStep_trial_self search lane active (by rw [length_trial_lane mem lane]; exact inSegment)]

/-- A frame command that passes validation runs the main pass and then phases 8 and 9 (R170). -/
theorem frameCommand_of_mainPass (legal : FrameLegal mode s) :
    frameCommand mode s = complete (idlePhase (runLookahead (operandsOf mode s) (drawsOf s)
      (exportFilterState (mainPass mode s)))) := frameCommand_of_legal legal

theorem keepsSamples_complete (s : State) : KeepsSamples s (complete (idlePhase s)) := .of_eq rfl rfl rfl

theorem keepsSamples_frameCommand (legal : FrameLegal mode s) :
    KeepsSamples (runLookahead (operandsOf mode s) (drawsOf s) (exportFilterState (mainPass mode s)))
      (frameCommand mode s) := by
  rw [frameCommand_of_mainPass legal]
  exact keepsSamples_complete _

theorem keepsSamples_mainPass_frameCommand (legal : FrameLegal mode s) :
    KeepsSamples (mainPass mode s) (frameCommand mode s) :=
  (keepsSamples_exportFilterState _).trans ((keepsSamples_runLookahead _ _ _).trans (keepsSamples_frameCommand legal))

/-- Each sample of the frame stands at the command's end (R127, R129). -/
theorem sampleStands_frame (wf : s.wf) (legal : FrameLegal mode s) {m n i : Nat} (subframe : m < subframes)
    (step : n < s.cfg.steps) (sample : i < s.cfg.samplesPerStep) :
    SampleStands (operandsOf mode s) (drawsOf s) (sampleStart (operandsOf mode s) (drawsOf s) (loopStart mode s) m n i)
      (frameCommand mode s) := by
  obtain ⟨⟨frame, -⟩, mem, -⟩ := wf
  have inFrame := sample_lt_frameLen frame subframe step sample
  refine sampleStands_of_keeps (memory_wf_sampleStart (memory_wf_loopStart mem mode) ..) ?_ ?_
  · simp only [sampleStart_work_index, sampleStart_cfg, loopStart_work_index, loopStart_cfg, Config.segLen]
    omega
  · exact (keepsSamples_runSubframes _ _ subframe (by simpa using step) (by simpa using sample)).trans
      (keepsSamples_mainPass_frameCommand legal)

theorem lookaheadStart_cfg (mode : Mode) (s : State) : (lookaheadStart mode s).cfg = s.cfg := by
  simp [lookaheadStart]

theorem lookaheadStart_work_index (wf : s.wf) (mode : Mode) :
    (lookaheadStart mode s).work.index = s.cfg.frameLen := by
  rw [← mainPass_work_index wf mode]
  simp [lookaheadStart, mainPass]

theorem lookaheadStart_work_mode (mode : Mode) (s : State) : (lookaheadStart mode s).work.mode = mode := by
  simp [lookaheadStart]

theorem lookaheadStart_work_sub (mode : Mode) (s : State) : (lookaheadStart mode s).work.sub = 3 := rfl

theorem memory_wf_lookaheadStart (mem : Memory.wf s) (mode : Mode) : Memory.wf (lookaheadStart mode s) :=
  memory_wf_setupLookahead (memory_wf_exportFilterState
    (memory_wf_runSubframes (memory_wf_loopStart mem mode) _ _) (sized_runSubframes (sized_loopStart mem mode) _ _))

/-- In the lookahead modes phase 9 is the segment of `LOOKAHEAD` samples (R183). -/
theorem runLookahead_mainPass (looks : mode = .preLa ∨ mode = .preGain) :
    runLookahead (operandsOf mode s) (drawsOf s) (exportFilterState (mainPass mode s)) =
      segment (operandsOf mode s) (drawsOf s) s.cfg.lookahead (lookaheadStart mode s) := by
  rw [runLookahead, if_pos (by simpa [mainPass_work_mode] using looks), exportFilterState_cfg, mainPass_cfg]
  rfl

/-- Each sample of the lookahead stands at the command's end (R127, R129, R183). -/
theorem sampleStands_lookahead (wf : s.wf) (legal : FrameLegal mode s) (looks : mode = .preLa ∨ mode = .preGain)
    {i : Nat} (sample : i < s.cfg.lookahead) :
    SampleStands (operandsOf mode s) (drawsOf s)
      (segment (operandsOf mode s) (drawsOf s) i (lookaheadStart mode s)) (frameCommand mode s) := by
  refine sampleStands_of_keeps (memory_wf_segment (memory_wf_lookaheadStart wf.2.1 mode) ..) ?_ ?_
  · rw [segment_work_index, segment_cfg, lookaheadStart_cfg, lookaheadStart_work_index wf]
    exact Nat.add_lt_add_left sample _
  · refine .trans ?_ (keepsSamples_frameCommand legal)
    rw [runLookahead_mainPass looks, ← segment_last]
    exact keepsSamples_segment _ _ sample _

end Sys2Proof.Machine

namespace Sys2Proof.Proofs

open Machine in
/-- Settles O41: each sample step stores its samples at INDEX, and everything the command does after it keeps the
samples before INDEX. -/
theorem frameOutputsAreTheSampleStepsOutputs : Obligations.FrameOutputsAreTheSampleStepsOutputs := by
  unfold Obligations.FrameOutputsAreTheSampleStepsOutputs
  intro mode s wf legal
  refine ⟨frameCommand mode s, exec_frameInstr mode s, fun m n i subframe step sample => ?_,
    fun looks i sample => ?_⟩
  · have stands := sampleStands_frame wf legal subframe step sample
    have sub := sampleStart_work_sub (operandsOf mode s) (drawsOf s) (loopStart mode s) m n i
    refine ⟨by simp [sampleStart_work_index], sub, stands.output, fun search j active => ?_⟩
    exact stands.trial (by simpa [sampleStart_work_mode] using search) j (active.trans_lt subframe) (by rwa [sub])
  · have stands := sampleStands_lookahead wf legal looks sample
    have sub : (segment (operandsOf mode s) (drawsOf s) i (lookaheadStart mode s)).work.sub = 3 := by
      rw [segment_work_sub, lookaheadStart_work_sub]
    refine ⟨by rw [segment_work_index, lookaheadStart_work_index wf], sub, stands.output, fun search j lane => ?_⟩
    exact stands.trial (by rw [segment_work_mode, lookaheadStart_work_mode, search]) j lane
      (by rw [sub]; exact Nat.le_of_lt_succ lane)

end Sys2Proof.Proofs
end

section
/-! SUPPORT. Where the sample step reads and writes (R134), and that outside gain search it has nothing to do with the
trial state (R132). -/

namespace Sys2Proof.Machine

variable {o : Operands} {nan : Draws} {s : State}

/-- The taps read lie in WBUF, all before the position written, which lies in WBUF too (R121, R123, R134). -/
theorem taps_in_bounds (legal : s.cfg.offsetsOk) (low : (s.cfg.lagOffsetMin : Int) ≤ s.work.lagOffset)
    (high : s.work.lagOffset ≤ s.cfg.lagOffsetMax) (inSegment : s.work.index < s.cfg.segLen) :
    0 ≤ tapBase s ∧ tapBase s + interpTaps - 1 < writePos s ∧ writePos s ≤ s.cfg.wbufLen - 1 := by
  obtain ⟨taps, -, history⟩ := legal
  unfold Config.segLen at inSegment
  unfold tapBase writePos Config.wbufLen
  refine ⟨?_, ?_, ?_⟩ <;> omega

/-- The trial taps read lie in the lane, before INDEX (R126, R134). -/
theorem trial_taps_in_bounds (legal : s.cfg.offsetsOk) (low : (s.cfg.lagOffsetMin : Int) ≤ s.work.lagOffset) {m : Nat}
    (first : firstTrialTap s ≤ m) (tap : m < interpTaps) :
    0 ≤ trialBase s + m ∧ trialBase s + m < s.work.index := by
  obtain ⟨taps, -, -⟩ := legal
  unfold firstTrialTap at first
  unfold trialBase at first ⊢
  constructor <;> omega

/-- The state with other trial elements: TRIAL, DDG and GMULT (R132). -/
def withTrialState (trial : List (List Slot)) (ddg : List (List F64)) (gmult : List F64) (s : State) : State :=
  { s with trial := trial, work := { s.work with ddg := ddg, gmult := gmult } }

/-- The main path neither reads nor writes the trial state. -/
theorem mainStep_withTrialState (o : Operands) (nan : Draws) (s : State) (trial : List (List Slot))
    (ddg : List (List F64)) (gmult : List F64) :
    mainStep o nan (withTrialState trial ddg gmult s) = withTrialState trial ddg gmult (mainStep o nan s) := rfl

theorem sampleStep_withTrialState (other : s.work.mode ≠ .preGain) (trial : List (List Slot)) (ddg : List (List F64))
    (gmult : List F64) :
    sampleStep o nan (withTrialState trial ddg gmult s) = withTrialState trial ddg gmult (sampleStep o nan s) := by
  rw [sampleStep, sampleStep, trialStep_of_ne other, trialStep_of_ne (s := withTrialState trial ddg gmult s) other,
    mainStep_withTrialState]

theorem segment_withTrialState (other : s.work.mode ≠ .preGain) (trial : List (List Slot)) (ddg : List (List F64))
    (gmult : List F64) (n : Nat) :
    segment o nan n (withTrialState trial ddg gmult s) = withTrialState trial ddg gmult (segment o nan n s) := by
  induction n with
  | zero => rfl
  | succ n ih => rw [segment_last, segment_last, ih, sampleStep_withTrialState (by rwa [segment_work_mode])]

end Sys2Proof.Machine

namespace Sys2Proof.Proofs

open Machine

/-- Settles O26: a legal offset is at least the number of taps and at most the history's length. -/
theorem sampleStepStaysInBounds : Obligations.SampleStepStaysInBounds := by
  unfold Obligations.SampleStepStaysInBounds
  intro s legal low high inSegment
  obtain ⟨-, -, offsets, -⟩ := legal
  obtain ⟨base, last, write⟩ := taps_in_bounds offsets low high inSegment
  exact ⟨base, last, write, fun m first tap => trial_taps_in_bounds offsets low first tap⟩

/-- Settles O27: by induction on the number of samples, each of which is the main path alone. -/
theorem segmentIgnoresTheTrialStateOutsideGainSearch :
    Obligations.SegmentIgnoresTheTrialStateOutsideGainSearch := by
  unfold Obligations.SegmentIgnoresTheTrialStateOutsideGainSearch
  exact fun _ _ n _ trial ddg gmult other => segment_withTrialState other trial ddg gmult n

end Sys2Proof.Proofs
end

section
/-! SUPPORT. A sample step with gain zero (R137): products with a zero are zeros, a sum of zeros from `+0.0` is `+0.0`,
and a difference to `+0.0` is exact. -/

namespace Sys2Proof.F64

theorem isFinite_of_zero {x : F64} (zero : magBits x = 0) : isFinite x = true := by
  rw [isFinite, zero]; decide

theorem toInt_of_zero {x : F64} (zero : magBits x = 0) : toInt x = 0 := by
  have : units x = 0 := (units_eq_zero_iff x).mpr zero
  rw [← Int.natAbs_eq_zero, natAbs_toInt, this]

/-- A zero times a number is a zero (R14). -/
theorem magBits_mul_of_zero (nan : F64) {a b : F64} (zero : magBits a = 0) (number : isFinite b = true) :
    magBits (mul nan a b) = 0 := by
  have : units a = 0 := (units_eq_zero_iff a).mpr zero
  rw [mul_finite nan (isFinite_of_zero zero) number, this, Nat.zero_mul, roundMag_zero, magBits_make (by decide)]

/-- `+0.0` plus a zero of either sign is `+0.0` (R14). -/
theorem plusZero_add_of_zero (nan : F64) {x : F64} (zero : magBits x = 0) : add nan F64.zero x = F64.zero := by
  rw [add_finite nan (by decide) (isFinite_of_zero zero), toInt_of_zero zero, toInt_of_zero (x := F64.zero) (by decide),
    if_pos (by decide)]
  rfl

/-- Taking `+0.0` away leaves every value that is no NaN, a negative zero and the infinities included (R129, R137). -/
theorem sub_plusZero (nan : F64) {x : F64} (number : isNaN x = false) : sub nan x F64.zero = x := by
  have minusZero : isFinite (neg F64.zero) = true := by decide
  rw [sub]
  cases kind x with
  | nan is => rw [number] at is; cases is
  | inf is => exact add_inf_finite nan is minusZero
  | finite is =>
    have sum : toInt x + toInt (neg F64.zero) = toInt x := by
      rw [toInt_of_zero (x := neg F64.zero) (by decide), add_zero]
    by_cases zero : toInt x = 0
    · have mag : magBits x = 0 := by rw [← units_eq_zero_iff, ← natAbs_toInt, zero]; rfl
      rw [add_finite nan is minusZero, sum, if_pos zero]
      exact make_eq (by rw [show (neg F64.zero).msb = true by decide, Bool.and_true]) mag
    · exact add_eq_of_exact nan is minusZero is sum zero

end Sys2Proof.F64

namespace Sys2Proof.Machine

variable {o : Operands} {nan : Draws} {s : State}

theorem mem_shiftDamper {d : List F64} {x : F64} (h : x ∈ shiftDamper d) : x ∈ d := by
  rcases List.mem_append.mp h with h | h
  · exact List.mem_of_mem_take h
  · exact List.mem_of_mem_dropLast h

/-- A property of `+0.0` and of every entry of a list holds of what a read gives, inside the list or outside. -/
theorem getD_zero_of_forall {P : F64 → Prop} {l : List F64} (entries : ∀ x ∈ l, P x) (outside : P F64.zero) (k : Nat) :
    P (l.getD k F64.zero) := by
  rcases lt_or_ge k l.length with inside | beyond
  · rw [List.getD_eq_getElem _ _ inside]; exact entries _ (List.getElem_mem inside)
  · rw [List.getD_eq_default _ _ beyond]; exact outside

/-- With gain zero and a finite prediction the damper memory stays all zeros (R122, R124). -/
theorem nextDamper_zeros (gain : s.work.wGain = F64.zero) (finite : F64.isFinite (predict nan s) = true)
    (zeros : ∀ d ∈ s.work.wdamp, F64.magBits d = 0) : ∀ d ∈ nextDamper nan s, F64.magBits d = 0 := by
  intro d h
  rcases List.mem_or_eq_of_mem_set h with older | rfl
  · exact zeros d (mem_shiftDamper older)
  · rw [gain]; exact F64.magBits_mul_of_zero _ (by decide) finite

/-- The damping sum of zeros is `+0.0` (R128). -/
theorem dampingSum_zeros (nan : Draws) {c : Config} (index : Nat) {d : List F64} (zeros : ∀ x ∈ d, F64.magBits x = 0)
    (coefs : ∀ x ∈ c.dampCoef, F64.isFinite x = true) : dampingSum nan c index d = F64.zero := by
  unfold dampingSum
  refine List.foldlRecOn (motive := (· = F64.zero)) _ _ rfl fun sum sumZero k _ => ?_
  rw [sumZero]
  exact F64.plusZero_add_of_zero _ (F64.magBits_mul_of_zero _ (getD_zero_of_forall zeros (by decide) k)
    (getD_zero_of_forall coefs (by decide) k))

theorem outputSample_of_zero_gain (gain : s.work.wGain = F64.zero) (finite : F64.isFinite (predict nan s) = true)
    (zeros : ∀ d ∈ s.work.wdamp, F64.magBits d = 0) (coefs : ∀ c ∈ s.cfg.dampCoef, F64.isFinite c = true)
    (number : F64.isNaN (o.inputAt s.work.index) = false) : outputSample o nan s = o.inputAt s.work.index := by
  rw [outputSample, dampingSum_zeros nan _ (nextDamper_zeros gain finite zeros) coefs, F64.sub_plusZero _ number]

end Sys2Proof.Machine

namespace Sys2Proof.Proofs

open Machine in
/-- Settles O28: the damper memory stays all zeros, so that the sum taken from the input is `+0.0`. -/
theorem zeroGainPassesTheInput : Obligations.ZeroGainPassesTheInput := by
  unfold Obligations.ZeroGainPassesTheInput
  intro o nan s gain finite zeros coefs number inside
  rw [sampleStep_output, getD_set_self inside]
  exact outputSample_of_zero_gain gain finite zeros coefs number

end Sys2Proof.Proofs
end

section
/-! SUPPORT. The assembled step of R133 against the functions of SEGMENT: each of its loops over the lanes computes the
lanes it leaves, one value a lane. -/

namespace Sys2Proof.Machine

variable {o : Operands} {nan : Draws} {s : State}

/-! ### the sums -/

theorem assembledShift_eq {d : List F64} (length : d.length = dampTaps) : assembledShift d = shiftDamper d := by
  obtain ⟨a, b, c, e, f, rfl⟩ : ∃ a b c e f, d = [a, b, c, e, f] := by
    match d, length with
    | [a, b, c, e, f], _ => exact ⟨a, b, c, e, f, rfl⟩
  rfl

theorem assembledPredict_eq (nan : Draws) (s : State) : assembledPredict nan s = predict nan s := by
  have base : (s.work.index + s.cfg.histLen - s.work.lagOffset : Int) = tapBase s := by
    unfold tapBase writePos; push_cast; rfl
  unfold assembledPredict
  rw [base]
  rfl

/-- The descending loop of R126 passes over the taps below the first one inside the lane. -/
theorem assembledTrialSum_eq (nan : Draws) (j : Nat) (s : State) : assembledTrialSum nan j s = trialPredict nan s j := by
  have taps : [8, 7, 6, 5, 4, 3, 2, 1, 0] = (List.range interpTaps).reverse := rfl
  unfold assembledTrialSum trialPredict
  rw [← List.filter_reverse, List.foldl_filter, taps]
  refine List.foldl_ext _ _ _ fun sum m _ => ?_
  have outside : ((m : Int) < max 0 (-(s.work.index - s.work.lagOffset))) ↔ ¬ firstTrialTap s ≤ m := by
    unfold firstTrialTap trialBase; omega
  simp only [outside, decide_eq_true_eq, ite_not]
  rfl

/-! ### the loops over the lanes -/

theorem getD_map_range {α : Type} {f : Nat → α} {default : α} {n j : Nat} (inside : j < n) :
    ((List.range n).map f).getD j default = f j := by simp [inside]

/-- A loop over the first `n` lanes whose turn replaces lane `j` by a value computed from lane `j` alone leaves in each
of these lanes that value, and the other lanes as they were. `put` is the state with the lanes it is given. -/
theorem foldl_lanes {σ α : Type} {put : List α → σ} {turn : σ → Nat → σ} (value : Nat → α → α) (default : α) {n : Nat}
    (lanes : List α)
    (one : ∀ lanes j, j < n → turn (put lanes) j = put (lanes.set j (value j (lanes.getD j default)))) :
    (List.range n).foldl turn (put lanes) =
      put ((List.range lanes.length).map fun j =>
        if j < n then value j (lanes.getD j default) else lanes.getD j default) := by
  induction n with
  | zero =>
    refine congrArg put (List.ext_getElem (by simp) fun j inside _ => ?_)
    simp [inside]
  | succ n ih =>
    rw [List.range_succ, List.foldl_append, ih fun lanes j h => one lanes j (Nat.lt_succ_of_lt h), List.foldl_cons,
      List.foldl_nil, one _ n (Nat.lt_succ_self n)]
    refine congrArg put (List.ext_getElem (by simp) fun j inside _ => ?_)
    have inside : j < lanes.length := by simpa using inside
    rw [List.getElem_set, List.getElem_map, List.getElem_map, List.getElem_range]
    rcases lt_trichotomy n j with above | rfl | below
    · rw [if_neg above.ne, if_neg above.not_gt, if_neg (not_lt.mpr above)]
    · rw [if_pos rfl, if_pos (Nat.lt_succ_self n), getD_map_range inside, if_neg (lt_irrefl n)]
    · rw [if_neg below.ne', if_pos below, if_pos (Nat.lt_succ_of_lt below)]

/-- The shapes of the trial state in gain search (R41, R46). -/
structure TrialShapes (s : State) : Prop where
  sub : s.work.sub < subframes
  trial : s.trial.length = subframes
  ddg : s.work.ddg.length = subframes
  taps : ∀ d ∈ s.work.ddg, d.length = dampTaps

/-- The state with the trial damper memories `ddg`. -/
def withDdg (s : State) (ddg : List (List F64)) : State := { s with work := { s.work with ddg := ddg } }

/-- The state with the trial lanes `trial`. -/
def withTrial (s : State) (trial : List (List Slot)) : State := { s with trial := trial }

/-- The loop of R125 shifts every lane's damper memory. -/
theorem assembledTrialShift_eq (shapes : TrialShapes s) :
    assembledTrialShift s =
      withDdg s ((List.range subframes).map fun j => shiftDamper (s.work.ddg.getD j [])) := by
  refine (foldl_lanes (put := withDdg s) (fun _ => assembledShift) [] s.work.ddg fun _ _ _ => rfl).trans ?_
  rw [shapes.ddg]
  refine congrArg (withDdg s) (List.map_congr_left fun j h => ?_)
  have lane := List.mem_range.mp h
  have inside : j < s.work.ddg.length := by rw [shapes.ddg]; exact lane
  have length : (s.work.ddg.getD j []).length = dampTaps := by
    rw [List.getD_eq_getElem _ _ inside]; exact shapes.taps _ (List.getElem_mem inside)
  rw [if_pos lane, assembledShift_eq length]

/-- The loop of R126 after that of R125 leaves the next trial damper memories. -/
theorem assembledTrialPredict_eq (shapes : TrialShapes s) :
    assembledTrialPredict nan (predict nan s) (assembledTrialShift s) =
      withDdg s ((List.range subframes).map (nextTrialDamper nan s)) := by
  rw [assembledTrialShift_eq shapes]
  refine (foldl_lanes (put := withDdg s) (fun j d => d.set 0 (trialNewest nan s j)) [] _
    fun _ _ _ => by rw [assembledTrialSum_eq]; rfl).trans ?_
  rw [List.length_map, List.length_range]
  refine congrArg (withDdg s) (List.map_congr_left fun j h => ?_)
  rw [getD_map_range (List.mem_range.mp h)]
  simp only [Nat.lt_succ_iff]
  rfl

/-- The loop of R127 leaves the next trial lanes. -/
theorem assembledTrialStore_eq (shapes : TrialShapes s) :
    assembledTrialStore nan (withDdg s ((List.range subframes).map (nextTrialDamper nan s))) =
      withTrial (withDdg s ((List.range subframes).map (nextTrialDamper nan s)))
        ((List.range subframes).map (nextTrialLane nan s)) := by
  refine (foldl_lanes (put := withTrial (withDdg s ((List.range subframes).map (nextTrialDamper nan s))))
    (fun j lane => lane.set s.work.index ⟨trialSample nan s j, true⟩) [] s.trial fun _ j active => ?_).trans ?_
  · have damper : ((List.range subframes).map (nextTrialDamper nan s)).getD j [] = nextTrialDamper nan s j :=
      getD_map_range (active.trans_le shapes.sub)
    rw [trialSample, ← damper]
    rfl
  · rw [shapes.trial]
    refine congrArg (withTrial _) (List.map_congr_left fun j h => ?_)
    simp only [Nat.lt_succ_iff]
    rfl

/-! ### the three parts of the assembled step -/

/-- Steps 4a to 4c of the assembled step, in gain search only (R125 to R127, R132). -/
def assembledTrialPath (nan : Draws) (p : F64) (s : State) : State :=
  if s.work.mode = .preGain then assembledTrialStore nan (assembledTrialPredict nan p (assembledTrialShift s)) else s

theorem assembledTrialPath_eq (shapes : s.work.mode = .preGain → TrialShapes s) :
    assembledTrialPath nan (predict nan s) s = trialStep nan s := by
  unfold assembledTrialPath
  by_cases search : s.work.mode = .preGain
  · rw [if_pos search, assembledTrialPredict_eq (shapes search), assembledTrialStore_eq (shapes search),
      trialStep_of_preGain search]
    rfl
  · rw [if_neg search, trialStep_of_ne search]

/-- The state with the damper memory `wdamp`. -/
def withDamper (s : State) (wdamp : List F64) : State := { s with work := { s.work with wdamp := wdamp } }

/-- The trial path reads and writes no damper memory but the lanes'. -/
theorem trialStep_withDamper (nan : Draws) (s : State) (wdamp : List F64) :
    trialStep nan (withDamper s wdamp) = withDamper (trialStep nan s) wdamp := by
  by_cases search : s.work.mode = .preGain
  · rw [trialStep_of_preGain search, trialStep_of_preGain (s := withDamper s wdamp) search]
    rfl
  · rw [trialStep_of_ne search, trialStep_of_ne (s := withDamper s wdamp) search]

/-- Steps 1 to 3 of the assembled step: the damper memory with its newest sample (R122 to R124). -/
def assembledDamper (nan : Draws) (s : State) : List F64 :=
  (assembledShift s.work.wdamp).set 0
    (F64.mul (nan ⟨.gainMul, s.work.index, 0, 0⟩) s.work.wGain (assembledPredict nan s))

theorem assembledDamper_eq (length : s.work.wdamp.length = dampTaps) : assembledDamper nan s = nextDamper nan s := by
  rw [assembledDamper, assembledShift_eq length, assembledPredict_eq, nextDamper]

/-- Steps 5 to 8 of the assembled step: the damping sum, OUT, WBUF at `pos`, INDEX (R128 to R131, R133). -/
def assembledMainPath (o : Operands) (nan : Draws) (pos : Nat) (s : State) : State :=
  let out := F64.sub (nan ⟨.outSub, s.work.index, 0, 0⟩) (o.inputAt s.work.index) (assembledDampingSum nan s)
  let stored := { s with output := s.output.set s.work.index ⟨out, true⟩ }
  let history := F64.add (nan ⟨.histAdd, s.work.index, 0, 0⟩) (o.inputAt s.work.index)
    (peek stored (.output s.work.index))
  { stored with work := { s.work with wbuf := s.work.wbuf.set pos history, index := s.work.index + 1 } }

/-- The peek at OUT in the assembled main path reads the output just stored. -/
theorem assembledMainPath_eq (inside : s.work.index < s.output.length) :
    assembledMainPath o nan (writePos s) (withDamper s (nextDamper nan s)) = mainStep o nan s := by
  have history : historySample o nan s = F64.add (nan ⟨.histAdd, s.work.index, 0, 0⟩) (o.inputAt s.work.index)
      (peek { s with output := s.output.set s.work.index ⟨outputSample o nan s, true⟩ } (.output s.work.index)) := by
    rw [historySample, peek, getD_set_self inside]
  rw [mainStep, history]
  rfl

/-- The assembled step is its three parts; the prediction does not read the damper memory. -/
theorem assembledStep_eq (o : Operands) (nan : Draws) (s : State) :
    assembledStep o nan s = assembledMainPath o nan (writePos s)
      (assembledTrialPath nan (assembledPredict nan s) (withDamper s (assembledDamper nan s))) := rfl

theorem nextDamper_trialStep (nan : Draws) (s : State) : nextDamper nan (trialStep nan s) = nextDamper nan s := by
  unfold trialStep
  split <;> rfl

theorem writePos_trialStep (nan : Draws) (s : State) : writePos (trialStep nan s) = writePos s := by simp [writePos]

end Sys2Proof.Machine

namespace Sys2Proof.Proofs

open Machine in
/-- Settles O25: the damper's step, the loops over the lanes and the main path of the assembled step are those of the
sample step; the trial path may run before the damper's step, whose results it does not read. -/
theorem sampleStepIsTheAssembledStep : Obligations.SampleStepIsTheAssembledStep := by
  unfold Obligations.SampleStepIsTheAssembledStep
  intro o nan s damper inside search
  have shapes : s.work.mode = .preGain → TrialShapes (withDamper s (nextDamper nan s)) := fun h => by
    obtain ⟨sub, trial, ddg, taps⟩ := search h
    exact ⟨sub, trial, ddg, taps⟩
  have trialPath : assembledTrialPath nan (predict nan s) (withDamper s (nextDamper nan s)) =
      withDamper (trialStep nan s) (nextDamper nan s) :=
    (assembledTrialPath_eq shapes).trans (trialStep_withDamper nan s _)
  rw [assembledStep_eq, assembledPredict_eq, assembledDamper_eq damper, trialPath, ← writePos_trialStep nan s,
    ← nextDamper_trialStep nan s, assembledMainPath_eq (by simpa using inside), sampleStep]

end Sys2Proof.Proofs
end

section
/-! SUPPORT. The step lags of validation (R172) against W_LAG in the main pass (R178, R179): both are running sums from
the same ramp starts, so what validation found legal is what UPDATE computes. -/

namespace Sys2Proof.Machine

variable {o : Operands} {nan : Draws} {mode : Mode} {s : State}

/-! ### the running sums -/

/-- The lag of the ramp of sub-frame `m` after its first `n` increments (R179). -/
def rampLagAfter (nan : Draws) (m : Nat) (start delta : F64) (n : Nat) : F64 :=
  (List.range n).foldl (fun lag k => nextLag nan m k lag delta) start

@[simp] theorem rampLagAfter_zero (nan : Draws) (m : Nat) (start delta : F64) :
    rampLagAfter nan m start delta 0 = start := rfl

theorem rampLagAfter_succ (nan : Draws) (m : Nat) (start delta : F64) (n : Nat) :
    rampLagAfter nan m start delta (n + 1) = nextLag nan m n (rampLagAfter nan m start delta n) delta := by
  simp [rampLagAfter, List.range_succ]

/-- The lag of step `n` is the ramp's running sum of `n + 1` increments. -/
theorem rampLagAfter_eq_runningSum (nan : Draws) (m : Nat) (start delta : F64) (n : Nat) :
    rampLagAfter nan m start delta (n + 1) = runningSum nan .lagStep m n start delta := rfl

/-- Where the lag ramp of sub-frame `m` starts: at the frame's seed for the first, at the exact previous target for a
later one (R178). -/
def rampStart (seed : F64) (o : Operands) : Nat → F64
  | 0 => seed
  | m + 1 => o.lagAt m

/-- W_LAG in step `n` of sub-frame `m` of a frame with targets `o` whose first ramp starts at `seed` (R178, R179). -/
def scheduledLag (nan : Draws) (c : Config) (seed : F64) (o : Operands) (m n : Nat) : F64 :=
  runningSum nan .lagStep m n (rampStart seed o m) (lagDeltaOf nan c m (rampStart seed o m) (o.lagAt m))

/-! ### the validated list -/

@[simp] theorem length_rampLags (nan : Draws) (m : Nat) (delta : F64) (count n : Nat) (lag : F64) :
    (rampLags nan m delta count n lag).length = count := by
  induction count generalizing n lag with
  | zero => rfl
  | succ count ih => rw [rampLags, List.length_cons, ih]

theorem rampLags_getElem? (nan : Draws) (m : Nat) (start delta : F64) {count k : Nat} (inside : k < count) (n : Nat) :
    (rampLags nan m delta count n (rampLagAfter nan m start delta n))[k]? =
      some (m, n + k, rampLagAfter nan m start delta (n + k + 1)) := by
  induction count generalizing k n with
  | zero => exact absurd inside (Nat.not_lt_zero k)
  | succ count ih =>
    rw [rampLags, ← rampLagAfter_succ]
    cases k with
    | zero => rfl
    | succ k =>
      rw [List.getElem?_cons_succ, ih (Nat.lt_of_succ_lt_succ inside), Nat.add_right_comm n 1 k, Nat.add_assoc n k 1]

/-- The validated lags of the sub-frames from `m` on: entry `STEPS x j + n` is that of step `n` of the `j`-th of them,
whose ramp starts at the target before its own (R172). -/
theorem stepLags_getElem? (nan : Draws) {c : Config} {n : Nat} (step : n < c.steps) {targets : List F64} {j : Nat}
    {start before target : F64} (starts : (start :: targets)[j]? = some before) (ends : targets[j]? = some target)
    (m : Nat) :
    (stepLags nan c m start targets)[c.steps * j + n]? =
      some (m + j, n, runningSum nan .lagStep (m + j) n before (lagDeltaOf nan c (m + j) before target)) := by
  induction targets generalizing j m start with
  | nil => cases ends
  | cons first rest ih =>
    rw [stepLags]
    cases j with
    | zero =>
      obtain rfl : start = before := Option.some.inj starts
      obtain rfl : first = target := Option.some.inj ends
      rw [List.getElem?_append_left (by simpa using step), Nat.mul_zero, Nat.zero_add]
      simpa [← rampLagAfter_eq_runningSum] using
        rampLags_getElem? nan m start (lagDeltaOf nan c m start first) step 0
    | succ j =>
      rw [List.getElem?_append_right (by rw [length_rampLags, Nat.mul_succ]; omega), length_rampLags, Nat.mul_succ,
        Nat.add_right_comm, Nat.add_sub_cancel, ih starts ends (m + 1), Nat.add_right_comm, Nat.add_assoc]

/-- Entry `STEPS x m + n` of the validated list is the scheduled lag of step `n` of sub-frame `m` (R172). -/
theorem frameStepLags_getElem? (mode : Mode) (s : State) {m n : Nat} (subframe : m < subframes)
    (step : n < s.cfg.steps) :
    (frameStepLags mode s)[s.cfg.steps * m + n]? =
      some (m, n, scheduledLag (drawsOf s) s.cfg (seedOf (drawsOf s) mode (operandsOf mode s) s).oldLag
        (operandsOf mode s) m n) := by
  have ends {k : Nat} (h : k < subframes) :
      ((List.range subframes).map fun m => readOperand s (.lag m))[k]? = some ((operandsOf mode s).lagAt k) := by
    rw [operandsOf_lagAt h, List.getElem?_map, List.getElem?_range h, Option.map_some]
  have starts (seed : F64) : (seed :: (List.range subframes).map fun m => readOperand s (.lag m))[m]? =
      some (rampStart seed (operandsOf mode s) m) := by
    cases m with
    | zero => rfl
    | succ m => exact ends (Nat.lt_of_succ_lt subframe)
  rw [frameStepLags, stepLags_getElem? (drawsOf s) step (starts _) (ends subframe), Nat.zero_add, scheduledLag]

/-! ### the main pass -/

theorem runStep_work_wLag (o : Operands) (nan : Draws) (n : Nat) (s : State) :
    (runStep o nan n s).work.wLag = nextLag nan s.work.sub n s.work.wLag s.work.lagDelta := by simp [runStep]

@[simp] theorem forLoop_runStep_sub (o : Operands) (nan : Draws) (count start : Nat) (s : State) :
    (forLoop (runStep o nan) count start s).work.sub = s.work.sub :=
  forLoop_frame (·.work.sub) _ _ _ fun n b => runStep_work_sub o nan n b

@[simp] theorem forLoop_runStep_lagDelta (o : Operands) (nan : Draws) (count start : Nat) (s : State) :
    (forLoop (runStep o nan) count start s).work.lagDelta = s.work.lagDelta :=
  forLoop_frame (·.work.lagDelta) _ _ _ fun n b => runStep_work_lagDelta o nan n b

theorem forLoop_runStep_wLag (o : Operands) (nan : Draws) (count : Nat) (s : State) :
    (forLoop (runStep o nan) count 0 s).work.wLag =
      rampLagAfter nan s.work.sub s.work.wLag s.work.lagDelta count := by
  induction count with
  | zero => rfl
  | succ n ih =>
    rw [forLoop_last, Nat.zero_add, runStep_work_wLag, ih, forLoop_runStep_sub, forLoop_runStep_lagDelta,
      rampLagAfter_succ]

/-- A sub-frame leaves its target as the start of the next ramp (R178). -/
theorem runSubframe_work_oldLag (o : Operands) (nan : Draws) (m : Nat) (s : State) :
    (runSubframe o nan m s).work.oldLag = o.lagAt m :=
  forLoop_frame (·.work.oldLag) _ 0 (setupSubframe o nan m s) fun n b => runStep_work_oldLag o nan n b

theorem forLoop_runSubframe_oldLag (o : Operands) (nan : Draws) (count : Nat) (s : State) :
    (forLoop (runSubframe o nan) count 0 s).work.oldLag = rampStart s.work.oldLag o count := by
  cases count with
  | zero => rfl
  | succ m => rw [forLoop_last, Nat.zero_add, runSubframe_work_oldLag, rampStart]

theorem loopStart_work_oldLag (mode : Mode) (s : State) :
    (loopStart mode s).work.oldLag = (seedOf (drawsOf s) mode (operandsOf mode s) s).oldLag := by
  simp [loopStart]

/-! ### the start of a step's segment -/

section

variable (o : Operands) (nan : Draws) (s : State) (m n : Nat)

theorem segmentStart_work_index :
    (segmentStart o nan s m n).work.index = s.work.index + s.cfg.subframeLen * m + s.cfg.samplesPerStep * n :=
  sampleStart_work_index o nan s m n 0

theorem segmentStart_work_sub : (segmentStart o nan s m n).work.sub = m := sampleStart_work_sub o nan s m n 0

theorem segmentStart_work_stepNo : (segmentStart o nan s m n).work.stepNo = n := by simp [segmentStart]

theorem segmentStart_work_wLag :
    (segmentStart o nan s m n).work.wLag = scheduledLag nan s.cfg s.work.oldLag o m n := by
  rw [segmentStart, update_work_wLag, advanceRamp_work, forLoop_runStep_wLag, forLoop_runStep_sub,
    forLoop_runStep_lagDelta, ← rampLagAfter_succ, setupSubframe_work, forLoop_runSubframe_oldLag,
    forLoop_runSubframe_cfg, scheduledLag, rampLagAfter_eq_runningSum]

end

/-- UPDATE on a step lag that passes validation: the offset and the row of R151 to R153 are defined, in range, and the
ones it writes (R158, R172). -/
theorem update_of_legal {c : Config} {m n : Nat} (cfg : s.cfg = c) (sub : s.work.sub = m) (stepNo : s.work.stepNo = n)
    (legal : stepFault nan c m n (update nan s).work.wLag = none) :
    stepOffset nan c m n (update nan s).work.wLag = some (update nan s).work.lagOffset ∧
    stepRow nan c m n (update nan s).work.wLag (update nan s).work.lagOffset = some (update nan s).work.row ∧
    (c.lagOffsetMin : Int) ≤ (update nan s).work.lagOffset ∧ (update nan s).work.lagOffset ≤ c.lagOffsetMax ∧
    0 ≤ (update nan s).work.row ∧ (update nan s).work.row ≤ 7 := by
  subst cfg sub stepNo
  rw [update_work_wLag] at legal ⊢
  rcases stepFault_cases nan s.cfg s.work.sub s.work.stepNo s.work.wLag with
    ⟨fault, -⟩ | ⟨offset, offsetIs, low, high, ⟨fault, -⟩ | ⟨-, row, rowIs, nonneg, le⟩⟩
  · simp [fault] at legal
  · simp [fault] at legal
  · have writesOffset : (update nan s).work.lagOffset = offset := by
      rw [update_work_lagOffset, offsetIs, Option.getD_some]
    have writesRow : (update nan s).work.row = row := by
      rw [update_work_row, writesOffset, rowIs, Option.getD_some]
    rw [writesOffset, writesRow]
    exact ⟨offsetIs, rowIs, low, high, nonneg, le⟩

/-- In a frame that passes validation the lag of every step of the main pass passes (R172). -/
theorem stepFault_segmentStart (legal : FrameLegal mode s) {m n : Nat} (subframe : m < subframes)
    (step : n < s.cfg.steps) :
    stepFault (drawsOf s) s.cfg m n
      (segmentStart (operandsOf mode s) (drawsOf s) (loopStart mode s) m n).work.wLag = none := by
  have steps := legal.2 _ (List.mem_of_getElem? (frameStepLags_getElem? mode s subframe step))
  rw [segmentStart_work_wLag, loopStart_cfg, loopStart_work_oldLag]
  exact steps

end Sys2Proof.Machine

namespace Sys2Proof.Proofs

open Machine in
/-- Settles O35: the lag of each step of the main pass is an entry of the validated list, UPDATE writes a legal lag's
own offset and row, and INDEX counts the samples before the step. -/
theorem validationCoversTheMainPass : Obligations.ValidationCoversTheMainPass := by
  unfold Obligations.ValidationCoversTheMainPass
  intro mode s _ legal m n subframe step w
  have sub := segmentStart_work_sub (operandsOf mode s) (drawsOf s) (loopStart mode s) m n
  rw [segmentStart, update_work_sub] at sub
  have index := segmentStart_work_index (operandsOf mode s) (drawsOf s) (loopStart mode s) m n
  rw [loopStart_work_index, loopStart_cfg, Nat.zero_add] at index
  obtain ⟨offset, row, low, high, nonneg, le⟩ := update_of_legal (by simp) sub (by simp)
    (stepFault_segmentStart legal subframe step)
  exact ⟨offset, row, low, high, nonneg, le, index⟩

end Sys2Proof.Proofs
end

section
/-! SUPPORT. UPDATE on whole delays (R154): `t + 0.5` and `8.0 x f - 0.5` are then exact ties between two integers, and
`rne` takes the even one. And the entries of GMULT that UPDATE writes (R155, R156). -/

namespace Sys2Proof.F64

theorem two_mul_toInt_half : 2 * toInt half = oneUnits := by decide +kernel

theorem oneUnits_eq_two_mul : oneUnits = 2 * 2 ^ 1073 := by decide +kernel

theorem two_mul_natAbs_eq {a k : Int} {one : Nat} (h : 2 * a = k * one) : 2 * a.natAbs = k.natAbs * one := by
  simpa [Int.natAbs_mul] using congrArg Int.natAbs h

/-- Every half of an integer below `2^53` is a number of the format. -/
theorem exists_toInt_eq_half_integer {k : Int} (small : k.natAbs < 2 ^ 53) :
    ∃ z, isFinite z = true ∧ 2 * toInt z = k * oneUnits := by
  obtain ⟨y, finite, value⟩ := exists_unitsOf_eq (e := 1073) small (by decide)
  have double : 2 * unitsOf y = k.natAbs * oneUnits := by
    rw [value, oneUnits_eq_two_mul, Nat.mul_left_comm]
  refine ⟨make (decide (k < 0)) y, isFinite_make finite, ?_⟩
  rw [toInt_make (finite.trans infBits_lt)]
  generalize oneUnits = one at *
  rcases Int.lt_or_le k 0 with negative | nonneg
  · obtain ⟨j, rfl⟩ : ∃ j : Nat, k = -j := ⟨k.natAbs, by omega⟩
    rw [Int.natAbs_neg, Int.natAbs_natCast] at double
    simp only [negative, decide_true, if_true, Int.neg_mul]
    norm_cast at double ⊢
    omega
  · obtain ⟨j, rfl⟩ := Int.eq_ofNat_of_zero_le nonneg
    rw [if_neg (by simp)]
    exact_mod_cast double

/-- A number halfway between `t` and `t + 1` goes to the even one, `t + t % 2` (R16). -/
theorem rne_halfway {x : F64} {t : Int} (finite : isFinite x = true) (small : t.natAbs < 2 ^ 30)
    (halfway : 2 * toInt x = (2 * t + 1) * oneUnits) : rne x = some (t + t % 2) := by
  have one := oneUnits_pos
  have inRange : units x < 2 ^ 31 * oneUnits := by
    have size := two_mul_natAbs_eq halfway
    have bound := Nat.mul_lt_mul_of_pos_right (show (2 * t + 1).natAbs < 2 ^ 31 by omega) one
    rw [natAbs_toInt] at size
    omega
  obtain ⟨k, defined, close, tie⟩ := rne_within_half finite inRange
  have distance : 2 * (toInt x - k * oneUnits).natAbs = (2 * t + 1 - 2 * k).natAbs * oneUnits :=
    two_mul_natAbs_eq (by rw [Int.mul_sub, halfway, Int.sub_mul, Int.mul_assoc])
  have neighbour : (2 * t + 1 - 2 * k).natAbs = 1 := by
    have := Nat.le_of_mul_le_mul_right (distance.symm.trans_le (close.trans_eq (Nat.one_mul _).symm)) one
    omega
  have even : k % 2 = 0 := tie (by rw [distance, neighbour, Nat.one_mul])
  rw [defined]
  congr 1
  omega

/-- A sum exactly halfway between two small integers is not rounded, and goes to the even one (R14, R16). -/
theorem rne_add_halfway (nan : F64) {a b : F64} {t : Int} (ha : isFinite a = true) (hb : isFinite b = true)
    (small : t.natAbs < 2 ^ 30) (halfway : 2 * (toInt a + toInt b) = (2 * t + 1) * oneUnits) :
    rne (add nan a b) = some (t + t % 2) := by
  obtain ⟨z, finite, value⟩ := exists_toInt_eq_half_integer (k := 2 * t + 1) (by omega)
  have nonzero : (2 * t + 1) * (oneUnits : Int) ≠ 0 :=
    Int.mul_ne_zero (by omega) (Int.natCast_ne_zero.mpr oneUnits_pos.ne')
  rw [add_eq_of_exact nan ha hb finite (by omega) (by omega)]
  exact rne_halfway finite small value

/-- The rounding of R151 on a whole number: `t + 0.5` is a tie. -/
theorem rne_add_half (nan : F64) {x : F64} {t : Int} (finite : isFinite x = true) (small : t.natAbs < 2 ^ 30)
    (whole : toInt x = t * oneUnits) : rne (add nan x half) = some (t + t % 2) := by
  refine rne_add_halfway nan finite isFinite_half small ?_
  rw [Int.mul_add, two_mul_toInt_half, whole, Int.add_mul, Int.one_mul, Int.mul_assoc]

/-- The rounding of R153 on a whole number: `t + 1 - 0.5` is a tie. -/
theorem rne_sub_half (nan : F64) {x : F64} {t : Int} (finite : isFinite x = true) (small : t.natAbs < 2 ^ 30)
    (whole : toInt x = (t + 1) * oneUnits) : rne (sub nan x half) = some (t + t % 2) := by
  refine rne_add_halfway nan finite (by decide) small ?_
  have half := two_mul_toInt_half
  rw [toInt_neg, whole, Int.add_mul, Int.add_mul, Int.mul_assoc]
  omega

theorem sub_i2f_succ (nan : F64) {t : Int} (small : t.natAbs < 2 ^ 30) : sub nan (i2f (t + 1)) (i2f t) = one := by
  obtain ⟨finite, value⟩ := i2f_exact (n := t) (by omega)
  obtain ⟨finiteSucc, valueSucc⟩ := i2f_exact (n := t + 1) (by omega)
  have oneIs : toInt one = oneUnits := by decide +kernel
  have pos := oneUnits_pos
  refine add_eq_of_exact nan finiteSucc (by simpa using finite) (by decide) ?_ (by omega)
  rw [toInt_neg, value, valueSucc, Int.add_mul, oneIs]
  omega

theorem mul_eight_one (nan : F64) : mul nan eight one = eight :=
  mul_eq_of_exact nan (by decide) (by decide) (by decide) (by decide +kernel) (by decide)

theorem mul_eight_zero (nan : F64) : mul nan eight zero = zero :=
  mul_eq_of_exact nan (by decide) (by decide) (by decide) (by decide +kernel) (by decide)

end Sys2Proof.F64

namespace Sys2Proof.Machine

/-! ### whole delays -/

/-- R151 on a whole delay: the even one of `t` and `t + 1`. -/
theorem lagOffsetOf_i2f (nan : Draws) (m n : Nat) {t : Int} (small : t.natAbs < 2 ^ 30) :
    lagOffsetOf nan m n (F64.i2f t) = some (t + t % 2) := by
  obtain ⟨finite, value⟩ := F64.i2f_exact (n := t) (by omega)
  exact F64.rne_add_half _ finite small value

/-- R152, R153 one above a whole delay: `f = 1.0`, and `7.5` goes to 8. -/
theorem rowOf_i2f_succ (nan : Draws) (m n : Nat) {t : Int} (small : t.natAbs < 2 ^ 30) :
    rowOf nan m n (F64.i2f t) (t + 1) = some 8 := by
  rw [rowOf, remainderOf, F64.sub_i2f_succ _ small, F64.mul_eight_one]
  exact F64.rne_sub_half (x := F64.eight) (t := 7) _ (by decide) (by decide) (by decide +kernel)

/-- R152, R153 at a whole delay: `f = 0.0`, and `-0.5` goes to 0. -/
theorem rowOf_i2f_self (nan : Draws) (m n : Nat) {t : Int} (small : t.natAbs < 2 ^ 30) :
    rowOf nan m n (F64.i2f t) t = some 0 := by
  obtain ⟨finite, -⟩ := F64.i2f_exact (n := t) (by omega)
  rw [rowOf, remainderOf, F64.sub_same _ finite, F64.mul_eight_zero]
  exact F64.rne_sub_half (x := F64.zero) (t := -1) _ (by decide) (by decide) (by decide +kernel)

/-- A step lag with a legal offset and a row out of 0..7 is refused for its row (R172). -/
theorem stepFault_of_row {nan : Draws} {c : Config} {m n : Nat} {lag : F64} {offset row : Int}
    (offsetIs : lagOffsetOf nan m n (delaySum nan c m n lag) = some offset) (low : (c.lagOffsetMin : Int) ≤ offset)
    (high : offset ≤ c.lagOffsetMax) (rowIs : rowOf nan m n (delaySum nan c m n lag) offset = some row)
    (outside : row < 0 ∨ 7 < row) : stepFault nan c m n lag = some ⟨.fractionIndexRange, c.steps * m + n⟩ := by
  rcases stepFault_cases nan c m n lag with
    ⟨-, fails⟩ | ⟨offset', offsetIs', -, -, ⟨fault, -⟩ | ⟨-, row', rowIs', nonneg, le⟩⟩
  · have := fails offset offsetIs
    omega
  · exact fault
  · obtain rfl : offset = offset' := Option.some.inj (offsetIs.symm.trans offsetIs')
    obtain rfl : row = row' := Option.some.inj (rowIs.symm.trans rowIs')
    omega

/-! ### the multipliers -/

/-- The capped sum never exceeds the cap: a value does not exceed itself, NaN included (R155, R160). -/
theorem not_cap_lt_multUp (nan : Draws) (c : Config) (m n : Nat) (g : F64) :
    F64.lt c.gainMultMax (multUp nan c m n g) = false := by
  unfold multUp
  dsimp only
  split
  · simp [F64.lt]
  next within => exact Bool.eq_false_iff.mpr within

section

variable (nan : Draws) (c : Config) {m : Nat} (n : Nat) {gm : List F64}

theorem nextMultipliers_getD_active (inside : m < gm.length) :
    (nextMultipliers nan c m n gm).getD m F64.zero = multUp nan c m n (gm.getD m F64.zero) := by
  unfold nextMultipliers
  dsimp only
  split
  · rw [getD_set_ne (by omega), getD_set_self inside]
  · rw [getD_set_self inside]

theorem nextMultipliers_getD_previous (pos : 0 < m) (inside : m < gm.length) :
    (nextMultipliers nan c m n gm).getD (m - 1) F64.zero = multDown nan c m n (gm.getD (m - 1) F64.zero) := by
  unfold nextMultipliers
  rw [if_pos pos, getD_set_self (by rw [List.length_set]; omega), getD_set_ne (by omega)]

theorem nextMultipliers_getD_other {j : Nat} (active : j ≠ m) (previous : j + 1 ≠ m) :
    (nextMultipliers nan c m n gm).getD j F64.zero = gm.getD j F64.zero := by
  unfold nextMultipliers
  dsimp only
  split
  · rw [getD_set_ne (by omega), getD_set_ne active.symm]
  · rw [getD_set_ne active.symm]

end

theorem update_work_gmult_of_preGain {nan : Draws} {s : State} (search : s.work.mode = .preGain) :
    (update nan s).work.gmult = nextMultipliers nan s.cfg s.work.sub s.work.stepNo s.work.gmult := by
  rw [update_work_gmult, if_pos search]

end Sys2Proof.Machine

namespace Sys2Proof.Proofs

open Machine

/-- Settles O22: on an integer delay both roundings of UPDATE are ties, and `rne` takes the even neighbours. -/
theorem integerDelaysSelectRowEightOrZero : Obligations.IntegerDelaysSelectRowEightOrZero := by
  unfold Obligations.IntegerDelaysSelectRowEightOrZero
  intro nan c m n lag t small delay
  have offset := lagOffsetOf_i2f nan m n small
  refine ⟨fun odd => ?_, fun even => ?_⟩
  · rw [odd] at offset
    have row := rowOf_i2f_succ nan m n small
    refine ⟨offset, row, fun low high => ?_⟩
    rw [← delay] at offset row
    exact stepFault_of_row offset low high row (by decide)
  · rw [even, Int.add_zero] at offset
    exact ⟨offset, rowOf_i2f_self nan m n small⟩

/-- Settles O23: UPDATE writes two entries of GMULT in gain search, and none elsewhere. -/
theorem updateStepsTheMultipliers : Obligations.UpdateStepsTheMultipliers := by
  unfold Obligations.UpdateStepsTheMultipliers
  intro nan s length subframe
  have inside : s.work.sub < s.work.gmult.length := length ▸ subframe
  refine ⟨fun search => ?_, fun other => ?_⟩
  · rw [update_work_gmult_of_preGain search]
    exact ⟨nextMultipliers_getD_active nan s.cfg _ inside,
      fun pos => nextMultipliers_getD_previous nan s.cfg _ pos inside,
      fun _ active previous => nextMultipliers_getD_other nan s.cfg _ active previous⟩
  · rw [update_work_gmult, if_neg other]

/-- Settles O24: UPDATE leaves the capped sum in the active entry, and the cap where the sum exceeds it. -/
theorem multiplierNeverExceedsItsCap : Obligations.MultiplierNeverExceedsItsCap := by
  unfold Obligations.MultiplierNeverExceedsItsCap
  intro nan s search inside
  have active : (update nan s).work.gmult.getD s.work.sub 0 =
      multUp nan s.cfg s.work.sub s.work.stepNo (s.work.gmult.getD s.work.sub 0) := by
    rw [update_work_gmult_of_preGain search]
    exact nextMultipliers_getD_active nan s.cfg _ inside
  dsimp only
  rw [active]
  refine ⟨not_cap_lt_multUp .., fun reached exceeds => ?_⟩
  rw [reached, multUp]
  exact if_pos exceeds

end Sys2Proof.Proofs
end

section
/-! SUPPORT. Two frame commands with the same operands (R185): what the phases of a frame read of a state, and that each
phase keeps two states in agreement on it. -/

namespace Sys2Proof.Machine

variable {o : Operands} {nan : Draws} {mode : Mode} {s u : State}

/-! ### the parts of a state that a frame reads -/

/-- An element of the trial state, which only gain search reads (R132). -/
def trialElement {α : Type} (s : State) (l : List α) : List α := if s.work.mode = .preGain then l else []

theorem trialElement_of_preGain {α : Type} (search : s.work.mode = .preGain) (l : List α) : trialElement s l = l :=
  if_pos search

theorem trialElement_of_ne {α : Type} (other : s.work.mode ≠ .preGain) (l : List α) : trialElement s l = [] :=
  if_neg other

/-- `s` with what no sample step reads taken out: every register but, in gain search, TRIAL, and outside gain search the
trial memories and the multipliers (R132, R133). -/
def samplePart (s : State) : State :=
  { State.initial s.cfg with
    output := []
    trial := trialElement s s.trial
    work := { s.work with ddg := trialElement s s.work.ddg, gmult := trialElement s s.work.gmult } }

/-- `s` without what a step writes before its segment (R150, R179). -/
def stepPart (s : State) : State :=
  { samplePart s with work := { (samplePart s).work with lagOffset := 0, row := 0, stepNo := 0, nsamp := 0 } }

/-- `s` without what a sub-frame writes before its steps (R178). -/
def subframePart (s : State) : State :=
  { stepPart s with
    work := { (stepPart s).work with
      sub := 0, wLag := F64.zero, wGain := F64.zero, lagDelta := F64.zero, gainDelta := F64.zero } }

theorem initial_cfg (c : Config) : (State.initial c).cfg = c := rfl

theorem samplePart_of_preGain (search : s.work.mode = .preGain) :
    samplePart s = { State.initial s.cfg with output := [], trial := s.trial, work := s.work } := by
  simp only [samplePart, trialElement_of_preGain search]

theorem samplePart_of_ne (other : s.work.mode ≠ .preGain) :
    samplePart s = { State.initial s.cfg with
      output := [], trial := [], work := { s.work with ddg := [], gmult := [] } } := by
  simp only [samplePart, trialElement_of_ne other]

/-! ### the operations on the parts they read -/

theorem outputSample_samplePart (o : Operands) (nan : Draws) (s : State) :
    outputSample o nan (samplePart s) = outputSample o nan s := rfl

theorem samplePart_mainStep (o : Operands) (nan : Draws) (s : State) :
    samplePart (mainStep o nan s) = mainStep o nan (samplePart s) := rfl

theorem samplePart_trialStep (nan : Draws) (s : State) :
    samplePart (trialStep nan s) = trialStep nan (samplePart s) := by
  by_cases search : s.work.mode = .preGain
  · rw [samplePart_of_preGain (by rwa [trialStep_work_mode]), samplePart_of_preGain search,
      trialStep_of_preGain search, trialStep_of_preGain (by exact search)]
    rfl
  · rw [trialStep_of_ne search, trialStep_of_ne (s := samplePart s) search]

theorem samplePart_sampleStep (o : Operands) (nan : Draws) (s : State) :
    samplePart (sampleStep o nan s) = sampleStep o nan (samplePart s) := by
  rw [sampleStep, sampleStep, samplePart_mainStep, samplePart_trialStep]

/-- The increments and UPDATE write what a step's segment reads from what the step reads (R150, R179). -/
theorem samplePart_update (nan : Draws) (n : Nat) (s : State) :
    samplePart (update nan (advanceRamp nan n s)) = update nan (advanceRamp nan n (stepPart s)) := by
  by_cases search : s.work.mode = .preGain
  · rw [samplePart_of_preGain (by simpa using search), stepPart, samplePart_of_preGain search]
    simp [update, search, initial_cfg]
  · rw [samplePart_of_ne (by simpa using search), stepPart, samplePart_of_ne search]
    simp [update, search, initial_cfg]

theorem stepPart_setupSubframe (o : Operands) (nan : Draws) (m : Nat) (s : State) :
    stepPart (setupSubframe o nan m s) = setupSubframe o nan m (subframePart s) := rfl

theorem samplePart_exportFilterState (s : State) : samplePart (exportFilterState s) = setupExport (samplePart s) := by
  unfold exportFilterState
  split <;> rfl

theorem samplePart_complete (s : State) : samplePart (complete (idlePhase s)) = idlePhase (samplePart s) := rfl

theorem samplePart_setupLookahead (s : State) : samplePart (setupLookahead s) = setupLookahead (samplePart s) := rfl

/-! ### agreement through the phases -/

/-- What each turn of a loop keeps of two states, the loop keeps. -/
theorem forLoop_rel {α : Type} {f : Nat → α → α} {R : α → α → Prop} (turn : ∀ k a b, R a b → R (f k a) (f k b))
    {a b : α} (base : R a b) (count start : Nat) : R (forLoop f count start a) (forLoop f count start b) := by
  induction count generalizing start a b with
  | zero => exact base
  | succ n ih => exact ih (turn start a b base) (start + 1)

/-- Two states agree on a part that a frame reads, and on the OUT entries it has made so far. -/
structure Agree (part : State → State) (s u : State) : Prop where
  part_eq : part u = part s
  room : u.output.length = s.output.length
  made : ∀ k, k < s.work.index → u.output[k]? = s.output[k]?

namespace Agree

/-- An operation that leaves INDEX and OUT keeps the agreement wherever its part is settled by the part it reads. -/
theorem map {p q : State → State} {f : State → State} (h : Agree p s u) (index : (f s).work.index = s.work.index)
    (output : ∀ a, (f a).output = a.output) (parts : p u = p s → q (f u) = q (f s)) : Agree q (f s) (f u) where
  part_eq := parts h.part_eq
  room := by rw [output, output]; exact h.room
  made := by rw [index, output, output]; exact h.made

theorem toStep (h : Agree samplePart s u) : Agree stepPart s u :=
  h.map (f := id) rfl (fun _ => rfl) fun e => by unfold stepPart; rw [id, id, e]

theorem toSubframe (h : Agree stepPart s u) : Agree subframePart s u :=
  h.map (f := id) rfl (fun _ => rfl) fun e => by unfold subframePart; rw [id, id, e]

section

variable (h : Agree samplePart s u)
include h

theorem cfg_eq : u.cfg = s.cfg := congrArg (·.cfg) h.part_eq
theorem mode_eq : u.work.mode = s.work.mode := congrArg (·.work.mode) h.part_eq
theorem index_eq : u.work.index = s.work.index := congrArg (·.work.index) h.part_eq
theorem wbuf_eq : u.work.wbuf = s.work.wbuf := congrArg (·.work.wbuf) h.part_eq
theorem wdamp_eq : u.work.wdamp = s.work.wdamp := congrArg (·.work.wdamp) h.part_eq
theorem oldLag_eq : u.work.oldLag = s.work.oldLag := congrArg (·.work.oldLag) h.part_eq
theorem oldGain_eq : u.work.oldGain = s.work.oldGain := congrArg (·.work.oldGain) h.part_eq

theorem trial_eq (search : s.work.mode = .preGain) : u.trial = s.trial := by
  have parts := h.part_eq
  rw [samplePart_of_preGain search, samplePart_of_preGain (h.mode_eq.trans search)] at parts
  exact congrArg (·.trial) parts

end

/-- A sample step makes the same output from both states, at the same place (R129). -/
theorem sampleStep (h : Agree samplePart s u) (o : Operands) (nan : Draws) :
    Agree samplePart (sampleStep o nan s) (sampleStep o nan u) where
  part_eq := by rw [samplePart_sampleStep, samplePart_sampleStep, h.part_eq]
  room := by rw [sampleStep_output, sampleStep_output, List.length_set, List.length_set, h.room]
  made k before := by
    rw [sampleStep_work_index] at before
    rw [sampleStep_output, sampleStep_output, ← outputSample_samplePart o nan u, h.part_eq, outputSample_samplePart,
      h.index_eq, List.getElem?_set, List.getElem?_set, h.room]
    rcases (Nat.lt_succ_iff.mp before).lt_or_eq with earlier | rfl
    · rw [if_neg earlier.ne', if_neg earlier.ne', h.made k earlier]
    · rw [if_pos rfl, if_pos rfl]

theorem segment (h : Agree samplePart s u) (o : Operands) (nan : Draws) (n : Nat) :
    Agree samplePart (segment o nan n s) (segment o nan n u) :=
  forLoop_rel (fun _ _ _ h => h.sampleStep o nan) h n 0

theorem update (h : Agree stepPart s u) (nan : Draws) (n : Nat) :
    Agree samplePart (update nan (advanceRamp nan n s)) (update nan (advanceRamp nan n u)) :=
  h.map (f := fun a => Machine.update nan (advanceRamp nan n a)) (by simp) (by simp) fun e => by
    rw [samplePart_update, samplePart_update, e]

theorem runStep (h : Agree stepPart s u) (o : Operands) (nan : Draws) (n : Nat) :
    Agree stepPart (runStep o nan n s) (runStep o nan n u) := by
  have updated := h.update nan n
  have cfg : u.cfg = s.cfg := congrArg (·.cfg) h.part_eq
  unfold Machine.runStep
  rw [cfg]
  exact (updated.segment o nan _).toStep

theorem setupSubframe (h : Agree subframePart s u) (o : Operands) (nan : Draws) (m : Nat) :
    Agree stepPart (setupSubframe o nan m s) (setupSubframe o nan m u) :=
  h.map rfl (fun _ => rfl) fun e => by rw [stepPart_setupSubframe, stepPart_setupSubframe, e]

theorem runSubframe (h : Agree subframePart s u) (o : Operands) (nan : Draws) (m : Nat) :
    Agree subframePart (runSubframe o nan m s) (runSubframe o nan m u) := by
  have cfg : u.cfg = s.cfg := congrArg (·.cfg) h.part_eq
  unfold Machine.runSubframe
  rw [cfg]
  exact (forLoop_rel (fun n _ _ h => h.runStep o nan n) (h.setupSubframe o nan m) _ _).toSubframe

theorem segmentStart (h : Agree subframePart s u) (o : Operands) (nan : Draws) (m n : Nat) :
    Agree samplePart (segmentStart o nan s m n) (segmentStart o nan u m n) :=
  have subframes := forLoop_rel (fun m _ _ h => h.runSubframe o nan m) h m 0
  have steps := forLoop_rel (fun n _ _ h => h.runStep o nan n) (subframes.setupSubframe o nan m) n 0
  steps.update nan n

/-- The main pass ends with a segment, after which everything a sample step reads has been written (R178, R179). -/
theorem runSubframes (h : Agree subframePart s u) (o : Operands) (nan : Draws) (steps : 0 < s.cfg.steps) :
    Agree samplePart (runSubframes o nan s) (runSubframes o nan u) := by
  have cfg : u.cfg = s.cfg := congrArg (·.cfg) h.part_eq
  have last := (h.segmentStart o nan 3 (s.cfg.steps - 1)).segment o nan s.cfg.samplesPerStep
  rw [segment_lastStep o nan steps] at last
  rwa [← cfg, segment_lastStep o nan (cfg ▸ steps)] at last

/-- Phase 8 changes FilterState and the phase only (R181). -/
theorem exportFilterState (h : Agree samplePart s u) :
    Agree samplePart (exportFilterState s) (exportFilterState u) :=
  h.map (by simp) (by simp) fun e => by rw [samplePart_exportFilterState, samplePart_exportFilterState, e]

theorem runLookahead (h : Agree samplePart s u) (o : Operands) (nan : Draws) :
    Agree samplePart (runLookahead o nan s) (runLookahead o nan u) := by
  have start : Agree samplePart (setupLookahead s) (setupLookahead u) :=
    h.map rfl (fun _ => rfl) fun e => by rw [samplePart_setupLookahead, samplePart_setupLookahead, e]
  unfold Machine.runLookahead
  rw [h.mode_eq, h.cfg_eq]
  split
  · exact start.segment o nan _
  · exact h

theorem complete (h : Agree samplePart s u) :
    Agree samplePart (complete (idlePhase s)) (complete (idlePhase u)) :=
  h.map (f := fun a => Machine.complete (idlePhase a)) rfl (fun _ => rfl) fun e => by
    rw [samplePart_complete, samplePart_complete, e]

end Agree

/-! ### two frame commands with the same operands -/

/-- The two states agree on what a frame command of the mode reads: the configuration, FilterState, LAG, GAIN, the IN
entries of the mode, and the number of its free values (R185). -/
structure SameOperands (mode : Mode) (s u : State) : Prop where
  cfg : u.cfg = s.cfg
  filter : sameFilterState s u
  draws : u.draws = s.draws
  lag : u.lag = s.lag
  gain : u.gain = s.gain
  input : ∀ k, k < samplesOf mode s.cfg → u.input[k]? = s.input[k]?

theorem readOperand_congr {r : Reg} (draws : u.draws = s.draws) (mark : marked u r = marked s r)
    (value : peek u r = peek s r) : readOperand u r = readOperand s r := by
  rw [readOperand, readOperand, draws, mark, value]

namespace SameOperands

variable (same : SameOperands mode s u)
include same

theorem readLag (m : Nat) : readOperand u (.lag m) = readOperand s (.lag m) :=
  readOperand_congr same.draws (by simp [marked, same.lag]) (by simp [peek, same.lag])

theorem readGain (m : Nat) : readOperand u (.gain m) = readOperand s (.gain m) :=
  readOperand_congr same.draws (by simp [marked, same.gain]) (by simp [peek, same.gain])

theorem readInput {k : Nat} (read : k < samplesOf mode s.cfg) :
    readOperand u (.input k) = readOperand s (.input k) :=
  readOperand_congr same.draws (by simp [marked, same.input k read]) (by simp [peek, same.input k read])

theorem operandsOf_eq : operandsOf mode u = operandsOf mode s := by
  have inputs : (List.range (samplesOf mode s.cfg)).map (fun k => readOperand u (.input k)) =
      (List.range (samplesOf mode s.cfg)).map fun k => readOperand s (.input k) :=
    List.map_congr_left fun k h => same.readInput (List.mem_range.mp h)
  simp only [operandsOf, same.cfg, same.readLag, same.readGain, inputs]

theorem drawsOf_eq : drawsOf u = drawsOf s := congrArg Config.freeNaN same.draws

theorem seedOf_eq (nan : Draws) (o : Operands) : seedOf nan mode o u = seedOf nan mode o s := by
  obtain ⟨-, -, lastLag, lastGain⟩ := same.filter
  simp only [seedOf, same.cfg, lastLag, lastGain]

/-- Validation comes to the same end (R171, R172). -/
theorem frameFault_eq (nan : Draws) (o : Operands) : frameFault nan mode o u = frameFault nan mode o s := by
  simp only [frameFault, same.cfg, same.seedOf_eq]

theorem frameLegal_iff : FrameLegal mode s ↔ FrameLegal mode u := by
  rw [← frameFault_eq_none_iff, ← frameFault_eq_none_iff, same.drawsOf_eq, same.operandsOf_eq, same.frameFault_eq]

/-- Phases 5 and 6 write everything the sub-frame loop reads (R173, R177). -/
theorem agree_loopStart (room : u.output.length = s.output.length) :
    Agree subframePart (loopStart mode s) (loopStart mode u) where
  part_eq := by
    obtain ⟨hist, damp, -⟩ := same.filter
    unfold loopStart
    rw [same.drawsOf_eq, same.operandsOf_eq, same.seedOf_eq]
    generalize seedOf (drawsOf s) mode (operandsOf mode s) s = seed
    by_cases search : mode = .preGain <;>
      simp [subframePart, stepPart, samplePart, trialElement, initGainSearch, search, same.cfg, hist, damp]
  room := by simpa [loopStart] using room
  made k before := absurd before (by simp)

theorem agree_mainPass (wf : s.wf) (wf' : u.wf) : Agree samplePart (mainPass mode s) (mainPass mode u) := by
  obtain ⟨⟨⟨-, steps, -⟩, -⟩, ⟨-, -, -, -, -, outputs, -⟩, -⟩ := wf
  obtain ⟨-, ⟨-, -, -, -, -, outputs', -⟩, -⟩ := wf'
  have start := same.agree_loopStart (by rw [outputs, outputs', same.cfg])
  unfold mainPass
  rw [same.drawsOf_eq, same.operandsOf_eq]
  exact start.runSubframes _ _ (by rwa [loopStart_cfg])

end SameOperands

/-- An exporting frame command that passes validation leaves the main pass's working state in FilterState (R181). -/
theorem frameCommand_filterState_of_exports (exports : mode ≠ .preGain) (legal : FrameLegal mode s) :
    (frameCommand mode s).hist = ((mainPass mode s).work.wbuf.drop s.cfg.frameLen).take s.cfg.histLen ∧
    (frameCommand mode s).damp = (mainPass mode s).work.wdamp ∧
    (frameCommand mode s).lastLag = (mainPass mode s).work.oldLag ∧
    (frameCommand mode s).lastGain = (mainPass mode s).work.oldGain := by
  refine ⟨frameCommand_hist exports legal, frameCommand_damp exports legal, ?_, ?_⟩ <;>
    rw [frameCommand_of_exports exports legal] <;> simp

theorem sameFilterState_frameCommand_preGain (s : State) : sameFilterState s (frameCommand .preGain s) := by
  by_contra changed
  exact (frameCommand_filterState changed).1 rfl

theorem frameCommand_work (legal : FrameLegal mode s) :
    (frameCommand mode s).work = { (runLookahead (operandsOf mode s) (drawsOf s)
      (exportFilterState (mainPass mode s))).work with phase := .idle } := by
  rw [frameCommand_of_mainPass legal, complete_work, idlePhase_work]

theorem frameCommand_work_mode (legal : FrameLegal mode s) : (frameCommand mode s).work.mode = mode := by
  rw [frameCommand_work legal, runLookahead]
  split <;> simp [mainPass_work_mode]

/-- A frame command makes the OUT entries of its mode and stops there (R40, R180, R183). -/
theorem frameCommand_work_index (wf : s.wf) (legal : FrameLegal mode s) :
    (frameCommand mode s).work.index = samplesOf mode s.cfg := by
  rw [frameCommand_work legal]
  have index := mainPass_work_index wf mode
  by_cases looks : mode = .preLa ∨ mode = .preGain
  · have ahead : mode.looksAhead = true := by rcases looks with rfl | rfl <;> rfl
    rw [runLookahead_mainPass looks, segment_work_index, lookaheadStart_work_index wf, samplesOf, if_pos ahead]
  · have stays : mode.looksAhead = false := by cases mode <;> simp_all [Mode.looksAhead]
    rw [runLookahead, if_neg (by simpa [mainPass_work_mode] using looks), samplesOf, if_neg (by simp [stays])]
    simpa using index

/-- The two commands leave states in agreement: every phase keeps the agreement of the loop's start. -/
theorem agree_frameCommand (same : SameOperands mode s u) (wf : s.wf) (wf' : u.wf) (legal : FrameLegal mode s) :
    Agree samplePart (frameCommand mode s) (frameCommand mode u) := by
  rw [frameCommand_of_mainPass legal, frameCommand_of_mainPass (same.frameLegal_iff.mp legal), same.drawsOf_eq,
    same.operandsOf_eq]
  exact ((same.agree_mainPass wf wf').exportFilterState.runLookahead _ _).complete

/-- R185, FilterState: the exported values are the main pass's, and gain search exports nothing. -/
theorem sameFilterState_frameCommands (same : SameOperands mode s u) (wf : s.wf) (wf' : u.wf)
    (legal : FrameLegal mode s) : sameFilterState (frameCommand mode s) (frameCommand mode u) := by
  by_cases search : mode = .preGain
  · subst search
    obtain ⟨hist, damp, lastLag, lastGain⟩ := same.filter
    obtain ⟨hist₁, damp₁, lastLag₁, lastGain₁⟩ := sameFilterState_frameCommand_preGain s
    obtain ⟨hist₂, damp₂, lastLag₂, lastGain₂⟩ := sameFilterState_frameCommand_preGain u
    exact ⟨by rw [hist₁, hist₂, hist], by rw [damp₁, damp₂, damp], by rw [lastLag₁, lastLag₂, lastLag],
      by rw [lastGain₁, lastGain₂, lastGain]⟩
  · have agree := same.agree_mainPass wf wf'
    obtain ⟨hist₁, damp₁, lastLag₁, lastGain₁⟩ := frameCommand_filterState_of_exports search legal
    obtain ⟨hist₂, damp₂, lastLag₂, lastGain₂⟩ :=
      frameCommand_filterState_of_exports search (same.frameLegal_iff.mp legal)
    exact ⟨by rw [hist₁, hist₂, agree.wbuf_eq, same.cfg], by rw [damp₁, damp₂, agree.wdamp_eq],
      by rw [lastLag₁, lastLag₂, agree.oldLag_eq], by rw [lastGain₁, lastGain₂, agree.oldGain_eq]⟩

end Sys2Proof.Machine

namespace Sys2Proof.Proofs

open Machine in
/-- Settles O47: both commands read the same operands, so that they come to the same end of validation, and the main
pass and the phases after it keep the two states in agreement on all that they read and on the outputs made. -/
theorem frameResultsDependOnlyOnOperands : Obligations.FrameResultsDependOnlyOnOperands := by
  unfold Obligations.FrameResultsDependOnlyOnOperands
  intro mode s u wf wf' cfg filter draws lag gain input
  have same : SameOperands mode s u := ⟨cfg, filter, draws, lag, gain, input⟩
  refine ⟨_, _, exec_frameInstr mode s, exec_frameInstr mode u, same.frameLegal_iff, ?_⟩
  by_cases legal : FrameLegal mode s
  · have agree := agree_frameCommand same wf wf' legal
    exact ⟨sameFilterState_frameCommands same wf wf' legal,
      fun _ => ⟨fun k written => agree.made k (by rwa [frameCommand_work_index wf legal]),
        fun search => agree.trial_eq (by rwa [frameCommand_work_mode legal])⟩, fun illegal => absurd legal illegal⟩
  · rcases frameCommand_cases mode s with ⟨f, fault, taken⟩ | ⟨none, -⟩
    · have fault' : frameFault (drawsOf u) mode (operandsOf mode u) u = some f := by
        rw [same.drawsOf_eq, same.operandsOf_eq, same.frameFault_eq, fault]
      have taken' : frameCommand mode u = takeFault f (noteOperands mode u) := by rw [frameCommand, fault']
      rw [taken, taken']
      exact ⟨filter, fun legal' => absurd legal' legal, fun _ => ⟨rfl, rfl⟩⟩
    · exact absurd ((frameFault_eq_none_iff mode s).mp none) legal

end Sys2Proof.Proofs
end

section
/-! SUPPORT. Which fault validation raises (R171, R172, R235): the lowest target lag out of range, then the first step
lag that fails, for its offset before its row. -/

namespace Sys2Proof.Machine

variable {mode : Mode} {s : State}

/-- The information of a fault is stored whole where it fits its 16 bits (R45). -/
theorem infoWord_of_lt {info : Nat} (fits : info < 2 ^ 16) : infoWord info = BitVec.ofNat 64 info := by
  apply BitVec.eq_of_toNat_eq
  simp only [infoWord, BitVec.toNat_setWidth, BitVec.toNat_ofNat]
  omega

/-- A frame command whose validation finds a fault takes it (R235). -/
theorem frameCommand_of_fault {f : CommandFault} (fault : frameFault (drawsOf s) mode (operandsOf mode s) s = some f) :
    frameCommand mode s = takeFault f (noteOperands mode s) := by
  rw [frameCommand, fault]

/-! ### the target lags -/

theorem lagInRange_of_nan (c : Config) {lag : F64} (nan : F64.isNaN lag = true) : lagInRange c lag = false := by
  rw [lagInRange, F64.le_of_nan (.inr nan), Bool.false_and]

/-- The lowest target lag out of range decides (R171). -/
theorem frameFault_of_targetLag (mode : Mode) {m : Nat} (subframe : m < subframes)
    (below : ∀ j, j < m → lagInRange s.cfg (readOperand s (.lag j)) = true)
    (outside : lagInRange s.cfg (readOperand s (.lag m)) = false) :
    frameFault (drawsOf s) mode (operandsOf mode s) s = some ⟨.invalidLagRange, m⟩ := by
  have lowest : (List.range subframes).find? (fun j => !lagInRange s.cfg ((operandsOf mode s).lagAt j)) = some m := by
    rw [List.find?_range_eq_some]
    refine ⟨by rw [operandsOf_lagAt subframe, outside]; rfl, List.mem_range.mpr subframe, fun j lower => ?_⟩
    rw [operandsOf_lagAt (lower.trans subframe), below j lower]
    rfl
  rw [frameFault, targetLagFault, lowest]
  rfl

/-! ### the step lags -/

/-- One step lag against the two conditions of R172: they exclude each other, and each decides its fault. -/
theorem stepFault_decides (nan : Draws) (c : Config) (k : Nat × Nat × F64) :
    (OffsetFails nan c k ∧ ¬ RowFails nan c k ∧
      stepFault nan c k.1 k.2.1 k.2.2 = some ⟨.lagOffsetRange, c.steps * k.1 + k.2.1⟩) ∨
    (¬ OffsetFails nan c k ∧ RowFails nan c k ∧
      stepFault nan c k.1 k.2.1 k.2.2 = some ⟨.fractionIndexRange, c.steps * k.1 + k.2.1⟩) ∨
    (¬ OffsetFails nan c k ∧ ¬ RowFails nan c k ∧ stepFault nan c k.1 k.2.1 k.2.2 = none) := by
  rcases stepFault_cases nan c k.1 k.2.1 k.2.2 with
    ⟨fault, fails⟩ | ⟨offset, offsetIs, low, high, ⟨fault, fails⟩ | ⟨passes, row, rowIs, nonneg, le⟩⟩
  · refine .inl ⟨fails, ?_, fault⟩
    rintro ⟨offset, offsetIs, low, high, -⟩
    have := fails offset offsetIs
    omega
  all_goals
    have offsetLegal : ¬ OffsetFails nan c k := fun fails => by
      have := fails offset offsetIs
      omega
  · exact .inr (.inl ⟨offsetLegal, ⟨offset, offsetIs, low, high, fails⟩, fault⟩)
  · refine .inr (.inr ⟨offsetLegal, ?_, passes⟩)
    rintro ⟨offset', offsetIs', -, -, fails⟩
    obtain rfl : offset = offset' := Option.some.inj (offsetIs.symm.trans offsetIs')
    have := fails row rowIs
    omega

theorem stepFault_eq_none_iff (nan : Draws) (c : Config) (k : Nat × Nat × F64) :
    stepFault nan c k.1 k.2.1 k.2.2 = none ↔ ¬ OffsetFails nan c k ∧ ¬ RowFails nan c k := by
  rcases stepFault_decides nan c k with ⟨offset, row, fault⟩ | ⟨offset, row, fault⟩ | ⟨offset, row, fault⟩ <;>
    simp [offset, row, fault]

/-- With every target lag in range, the first step lag that fails decides (R172). -/
theorem frameFault_of_stepLag (targets : TargetLagsLegal s) {before after : List (Nat × Nat × F64)}
    {k : Nat × Nat × F64} (lags : frameStepLags mode s = before ++ k :: after)
    (passes : ∀ j ∈ before, stepFault (drawsOf s) s.cfg j.1 j.2.1 j.2.2 = none) {f : CommandFault}
    (fault : stepFault (drawsOf s) s.cfg k.1 k.2.1 k.2.2 = some f) :
    frameFault (drawsOf s) mode (operandsOf mode s) s = some f := by
  have validated : stepLags (drawsOf s) s.cfg 0 (seedOf (drawsOf s) mode (operandsOf mode s) s).oldLag
      ((List.range subframes).map (operandsOf mode s).lagAt) = before ++ k :: after := by
    rw [← lags, frameStepLags, List.map_congr_left fun m h => operandsOf_lagAt (List.mem_range.mp h) mode s]
  have first : before.findSome? (fun j => stepFault (drawsOf s) s.cfg j.1 j.2.1 j.2.2) = none :=
    List.findSome?_eq_none_iff.mpr passes
  rw [frameFault, (targetLagFault_eq_none_iff mode s).mpr targets]
  dsimp only
  rw [stepLagFault, validated, List.findSome?_append, first, List.findSome?_cons, fault]
  rfl

end Sys2Proof.Machine

namespace Sys2Proof.Proofs

open Machine

/-- Settles O30: the check of the target lags finds the lowest one out of range, before any step lag is looked at. -/
theorem targetLagOutOfRangeFaults : Obligations.TargetLagOutOfRangeFaults := by
  unfold Obligations.TargetLagOutOfRangeFaults
  refine ⟨fun mode s m subframe below outside => ?_, fun c _ => lagInRange_of_nan c⟩
  have outOfRange : lagInRange s.cfg (readOperand s (.lag m)) = false := by
    simpa [lagInRange] using outside
  have taken := frameCommand_of_fault (frameFault_of_targetLag mode subframe below outOfRange)
  refine ⟨_, exec_frameInstr mode s, ?_⟩
  rw [taken]
  exact ⟨takeFault_faulted _ _, takeFault_busy _ _, takeFault_done _ _, rfl,
    infoWord_of_lt (subframe.trans (by decide))⟩

/-- Settles O31: a step lag passes exactly where neither condition holds, so the first that meets one is the first that
the check refuses. -/
theorem firstFailingStepDecidesTheFault : Obligations.FirstFailingStepDecidesTheFault := by
  unfold Obligations.FirstFailingStepDecidesTheFault
  refine ⟨fun mode s before after k targets lags passes fails => ?_, fun mode s => ?_⟩
  · have decided {f : CommandFault} (fault : stepFault (drawsOf s) s.cfg k.1 k.2.1 k.2.2 = some f) :=
      frameCommand_of_fault (frameFault_of_stepLag targets lags
        (fun j h => (stepFault_eq_none_iff _ _ j).mpr (passes j h)) fault)
    refine ⟨_, exec_frameInstr mode s, ?_⟩
    rcases stepFault_decides (drawsOf s) s.cfg k with
      ⟨offset, row, fault⟩ | ⟨offset, row, fault⟩ | ⟨offset, row, -⟩
    · rw [decided fault]
      simp [offset, row, causeWord, FaultCause.code]
    · rw [decided fault]
      simp [offset, row, causeWord, FaultCause.code]
    · exact absurd fails (by simp [offset, row])
  · unfold FrameLegal
    simp only [stepFault_eq_none_iff]

/-- Settles O36: both passes compute the scheduled lag of the step. -/
theorem validatedLagsAreTheLagsUsed : Obligations.ValidatedLagsAreTheLagsUsed := by
  unfold Obligations.ValidatedLagsAreTheLagsUsed
  intro mode s m n subframe step
  rw [frameStepLags_getElem? mode s subframe step, segmentStart_work_wLag, loopStart_cfg, loopStart_work_oldLag]

end Sys2Proof.Proofs
end

section
/-! SUPPORT. The start of the main pass (R174 to R177), its gain ramps beside its lag ramps (R178, R179), and the
lookahead (R183). -/

namespace Sys2Proof.Machine

variable {o : Operands} {nan : Draws} {mode : Mode} {s : State}

/-! ### the seed (R174 to R176) -/

theorem seedOf_fallback (nan : Draws) (mode : Mode) (o : Operands) (s : State) :
    (seedOf nan mode o s).fallback = fallbackTest nan s.cfg s.lastLag (o.lagAt 0) := by
  unfold seedOf
  cases fallbackTest nan s.cfg s.lastLag (o.lagAt 0) <;> rfl

theorem seedOf_of_fallback (falls : (seedOf nan mode o s).fallback = true) :
    (seedOf nan mode o s).oldLag = o.lagAt 0 ∧
    (seedOf nan mode o s).oldGain = (seedOf nan mode o s).g.getD 0 F64.zero := by
  rw [seedOf_fallback] at falls
  unfold seedOf
  rw [if_pos falls]
  exact ⟨rfl, rfl⟩

theorem seedOf_of_no_fallback (stays : (seedOf nan mode o s).fallback = false) :
    (seedOf nan mode o s).oldLag = s.lastLag ∧ (seedOf nan mode o s).oldGain = s.lastGain := by
  rw [seedOf_fallback] at stays
  unfold seedOf
  rw [if_neg (by simp [stays])]
  exact ⟨rfl, rfl⟩

/-- A product with a NaN is a NaN, so neither comparison holds (R175). -/
theorem fallbackTest_of_nan (nan : Draws) (c : Config) {lastLag : F64} (isNan : F64.isNaN lastLag = true)
    (lag0 : F64) : fallbackTest nan c lastLag lag0 = false := by
  have product (draw ratio : F64) : F64.isNaN (F64.mul draw ratio lastLag) = true := by
    rw [F64.mul_of_nan draw (.inr isNan), F64.isNaN_asNaN]
  rw [fallbackTest, F64.lt_of_nan (.inl (product _ _)), F64.lt_of_nan (.inr (product _ _))]
  rfl

/-- `G[m]` is the target gain of sub-frame `m` (R174). -/
theorem seedOf_g_getD (nan : Draws) (mode : Mode) (o : Operands) (s : State) {m : Nat} (subframe : m < subframes) :
    (seedOf nan mode o s).g.getD m F64.zero = targetGain nan s.cfg mode o m := by
  have targets : (seedOf nan mode o s).g = (List.range subframes).map (targetGain nan s.cfg mode o) := by
    unfold seedOf
    dsimp only
    split <;> rfl
  simp [targets, subframe]

/-! ### gain-search initialisation (R177) -/

theorem initGainSearch_of_preGain (search : s.work.mode = .preGain) :
    initGainSearch s = { s with
      trial := List.replicate subframes (List.replicate s.cfg.segLen ⟨F64.zero, true⟩)
      work := { s.work with
        ddg := List.replicate subframes (List.replicate dampTaps F64.zero)
        gmult := (List.replicate subframes F64.zero).set 0 (if s.work.fallback then F64.one else F64.zero) } } :=
  if_pos search

theorem initGainSearch_of_ne (other : s.work.mode ≠ .preGain) : initGainSearch s = s := if_neg other

/-! ### the gain ramps (R178, R179) -/

theorem runningSum_succ (nan : Draws) (op : SiteOp) (m n : Nat) (start delta : F64) :
    runningSum nan op m (n + 1) start delta =
      F64.add (nan ⟨op, m, n + 1, 0⟩) (runningSum nan op m n start delta) delta := by
  rw [runningSum, List.range_succ, List.foldl_concat]
  rfl

theorem runStep_work_wGain (o : Operands) (nan : Draws) (n : Nat) (s : State) :
    (runStep o nan n s).work.wGain = nextGain nan s.work.sub n s.work.wGain s.work.gainDelta := by simp [runStep]

theorem forLoop_runStep_gainDelta (o : Operands) (nan : Draws) (count start : Nat) (s : State) :
    (forLoop (runStep o nan) count start s).work.gainDelta = s.work.gainDelta :=
  forLoop_frame (·.work.gainDelta) _ _ _ fun n b => runStep_work_gainDelta o nan n b

/-- W_GAIN after the steps up to `n` of a sub-frame is the running sum of step `n`. -/
theorem forLoop_runStep_wGain (o : Operands) (nan : Draws) (n : Nat) (s : State) :
    (forLoop (runStep o nan) (n + 1) 0 s).work.wGain =
      runningSum nan .gainStep s.work.sub n s.work.wGain s.work.gainDelta := by
  induction n with
  | zero => exact runStep_work_wGain o nan 0 s
  | succ n ih =>
    rw [forLoop_last, Nat.zero_add, runStep_work_wGain, ih, forLoop_runStep_sub, forLoop_runStep_gainDelta,
      runningSum_succ, nextGain]

theorem forLoop_runSubframe_g (o : Operands) (nan : Draws) (count start : Nat) (s : State) :
    (forLoop (runSubframe o nan) count start s).work.g = s.work.g :=
  forLoop_frame (·.work.g) _ _ _ fun m b => runSubframe_work_g o nan m b

/-- A sub-frame leaves its target gain as the start of the next ramp (R178). -/
theorem runSubframe_work_oldGain (o : Operands) (nan : Draws) (m : Nat) (s : State) :
    (runSubframe o nan m s).work.oldGain = s.work.g.getD m F64.zero :=
  forLoop_frame (·.work.oldGain) _ 0 (setupSubframe o nan m s) fun n b => runStep_work_oldGain o nan n b

theorem forLoop_runSubframe_oldGain (o : Operands) (nan : Draws) (m : Nat) (s : State) :
    (forLoop (runSubframe o nan) m 0 s).work.oldGain =
      if m = 0 then s.work.oldGain else s.work.g.getD (m - 1) F64.zero := by
  cases m with
  | zero => rfl
  | succ m => rw [forLoop_last, Nat.zero_add, runSubframe_work_oldGain, forLoop_runSubframe_g]; rfl

section

variable (o : Operands) (nan : Draws) (s : State) (m n : Nat)

/-- The state in which the steps of sub-frame `m` start (R178). -/
def subframeStart : State := setupSubframe o nan m (forLoop (runSubframe o nan) m 0 s)

theorem segmentStart_work_nsamp : (segmentStart o nan s m n).work.nsamp = s.cfg.samplesPerStep := by
  simp [segmentStart]

theorem segmentStart_work_wLag_runningSum :
    (segmentStart o nan s m n).work.wLag =
      runningSum nan .lagStep m n (subframeStart o nan s m).work.wLag (subframeStart o nan s m).work.lagDelta := by
  rw [segmentStart_work_wLag, scheduledLag, subframeStart, setupSubframe_work, forLoop_runSubframe_oldLag,
    forLoop_runSubframe_cfg]

theorem segmentStart_work_wGain_runningSum :
    (segmentStart o nan s m n).work.wGain =
      runningSum nan .gainStep m n (subframeStart o nan s m).work.wGain (subframeStart o nan s m).work.gainDelta := by
  rw [← segment_work_wGain o nan s.cfg.samplesPerStep, segment_segmentStart, forLoop_runStep_wGain]
  rfl

end

theorem rampStart_eq (seed : F64) (o : Operands) (m : Nat) :
    rampStart seed o m = if m = 0 then seed else o.lagAt (m - 1) := by
  cases m <;> rfl

/-! ### the main pass of a frame command -/

theorem loopStart_work_g (mode : Mode) (s : State) :
    (loopStart mode s).work.g = (seedOf (drawsOf s) mode (operandsOf mode s) s).g := by
  simp [loopStart]

theorem loopStart_work_oldGain (mode : Mode) (s : State) :
    (loopStart mode s).work.oldGain = (seedOf (drawsOf s) mode (operandsOf mode s) s).oldGain := by
  simp [loopStart]

theorem loopStart_g_getD (mode : Mode) (s : State) {m : Nat} (subframe : m < subframes) :
    (loopStart mode s).work.g.getD m F64.zero = targetGain (drawsOf s) s.cfg mode (operandsOf mode s) m := by
  rw [loopStart_work_g, seedOf_g_getD _ _ _ _ subframe]

/-- Where the gain ramp of sub-frame `m` starts: at the seed for the first, at the exact previous target for a later one
(R178). -/
theorem forLoop_loopStart_oldGain (mode : Mode) (s : State) {m : Nat} (subframe : m < subframes) :
    (forLoop (runSubframe (operandsOf mode s) (drawsOf s)) m 0 (loopStart mode s)).work.oldGain =
      if m = 0 then (seedOf (drawsOf s) mode (operandsOf mode s) s).oldGain
      else targetGain (drawsOf s) s.cfg mode (operandsOf mode s) (m - 1) := by
  rw [forLoop_runSubframe_oldGain, loopStart_work_oldGain, loopStart_g_getD mode s (by omega)]

theorem forLoop_loopStart_oldLag (mode : Mode) (s : State) (m : Nat) :
    (forLoop (runSubframe (operandsOf mode s) (drawsOf s)) m 0 (loopStart mode s)).work.oldLag =
      if m = 0 then (seedOf (drawsOf s) mode (operandsOf mode s) s).oldLag else (operandsOf mode s).lagAt (m - 1) := by
  rw [forLoop_runSubframe_oldLag, loopStart_work_oldLag, rampStart_eq]

theorem forLoop_loopStart_g (mode : Mode) (s : State) {m : Nat} (subframe : m < subframes) :
    (forLoop (runSubframe (operandsOf mode s) (drawsOf s)) m 0 (loopStart mode s)).work.g.getD m F64.zero =
      targetGain (drawsOf s) s.cfg mode (operandsOf mode s) m := by
  rw [forLoop_runSubframe_g, loopStart_g_getD mode s subframe]

/-- The setup of sub-frame `m` of a frame command: its starts, its deltas, and its targets as the next starts (R178). -/
theorem subframeStart_work (mode : Mode) (s : State) {m : Nat} (subframe : m < subframes) {lag gain : F64}
    (lagIs : lag =
      if m = 0 then (seedOf (drawsOf s) mode (operandsOf mode s) s).oldLag else (operandsOf mode s).lagAt (m - 1))
    (gainIs : gain =
      if m = 0 then (seedOf (drawsOf s) mode (operandsOf mode s) s).oldGain
      else targetGain (drawsOf s) s.cfg mode (operandsOf mode s) (m - 1)) :
    let w := (subframeStart (operandsOf mode s) (drawsOf s) (loopStart mode s) m).work
    w.sub = m ∧ w.wLag = lag ∧ w.wGain = gain ∧
    w.lagDelta = lagDeltaOf (drawsOf s) s.cfg m lag ((operandsOf mode s).lagAt m) ∧
    w.gainDelta = gainDeltaOf (drawsOf s) s.cfg m gain (targetGain (drawsOf s) s.cfg mode (operandsOf mode s) m) ∧
    w.oldLag = (operandsOf mode s).lagAt m ∧
    w.oldGain = targetGain (drawsOf s) s.cfg mode (operandsOf mode s) m := by
  simp only [subframeStart, setupSubframe_work, forLoop_runSubframe_cfg, loopStart_cfg, forLoop_loopStart_oldLag,
    forLoop_loopStart_oldGain mode s subframe, forLoop_loopStart_g mode s subframe, ← lagIs, ← gainIs, and_self]

/-! ### the lookahead (R183) -/

theorem runLookahead_of_looks (o : Operands) (nan : Draws) (looks : s.work.mode = .preLa ∨ s.work.mode = .preGain) :
    runLookahead o nan s = segment o nan s.cfg.lookahead (setupLookahead s) := if_pos looks

end Sys2Proof.Machine

namespace Sys2Proof.Proofs

open Machine

/-- Settles O29: the lookahead is a segment, which leaves the parameters and everything before INDEX. -/
theorem lookaheadKeepsTheParameters : Obligations.LookaheadKeepsTheParameters := by
  unfold Obligations.LookaheadKeepsTheParameters
  intro o nan s looks
  have outputs : ∀ k, k < s.work.index → (runLookahead o nan s).output[k]? = s.output[k]? :=
    fun k below => runLookahead_output_of_lt below
  have filter : sameFilterState s (runLookahead o nan s) := by simp [sameFilterState]
  refine ⟨?_, ?_, ?_, ?_, ?_, ?_, filter, outputs⟩ <;> rw [runLookahead_of_looks o nan looks] <;> simp

/-- Settles O37: the import, and the starts and the deltas that the sub-frame's setup writes, from which the ramps are
running sums. -/
theorem subframesRampFromTheExactTargets : Obligations.SubframesRampFromTheExactTargets := by
  unfold Obligations.SubframesRampFromTheExactTargets
  intro mode s o nan sd start
  refine ⟨by simp [start, loopStart], ?_⟩
  intro m subframe lag gain lagDelta gainDelta w
  obtain ⟨sub, wLag, wGain, lagDeltaIs, gainDeltaIs, oldLag, oldGain⟩ :=
    subframeStart_work mode s subframe (lag := lag) (gain := gain) rfl rfl
  refine ⟨sub, wLag, wGain, lagDeltaIs, gainDeltaIs, oldLag, oldGain, ?_⟩
  intro n step u
  refine ⟨segmentStart_work_sub .., segmentStart_work_stepNo .., ?_, ?_, ?_⟩
  · exact (segmentStart_work_nsamp ..).trans (congrArg (·.samplesPerStep) (loopStart_cfg mode s))
  · exact (segmentStart_work_wLag_runningSum ..).trans (by rw [wLag, lagDeltaIs]; rfl)
  · exact (segmentStart_work_wGain_runningSum ..).trans (by rw [wGain, gainDeltaIs]; rfl)

/-- Settles O38: the seed is the fallback test's choice. -/
theorem fallbackSeedsTheRamp : Obligations.FallbackSeedsTheRamp := by
  unfold Obligations.FallbackSeedsTheRamp
  intro nan mode o s
  refine ⟨?_, seedOf_of_fallback, seedOf_of_no_fallback, fun isNan => ?_⟩
  · rw [seedOf_fallback, fallbackTest, Bool.or_eq_true]
  · rw [seedOf_fallback, fallbackTest_of_nan nan _ isNan]

/-- Settles O39: the initialisation replaces the trial state by zeros, but for the first multiplier. -/
theorem gainSearchStartsCleared : Obligations.GainSearchStartsCleared := by
  unfold Obligations.GainSearchStartsCleared
  refine fun s => ⟨fun search => ?_, initGainSearch_of_ne⟩
  rw [initGainSearch_of_preGain search]
  refine ⟨fun j k lane inside => ?_, fun j k lane tap => ?_, rfl, fun j pos lane => ?_⟩
  · rw [List.getD_replicate _ lane, List.getD_replicate _ inside]
  · rw [List.getD_replicate _ lane, List.getD_replicate _ tap]
  · rw [getD_set_ne pos.ne, List.getD_replicate _ lane]

end Sys2Proof.Proofs
end

section
/-! SUPPORT. The main path of a frame apart from the trial path (R132), with the commands of one state compared: what
the main path reads and writes passes through every phase, whatever the mode; and TRIAL outside gain search (R41). -/

namespace Sys2Proof.Machine

variable {o : Operands} {nan : Draws} {mode : Mode} {s u : State}

/-! ### the part the main path reads -/

/-- `s` with only what the main path of a frame reads and writes: the configuration, OUT, and the working state without
the mode and the trial elements (R122 to R131, R150, R178, R179). -/
def mainPart (s : State) : State :=
  { State.initial s.cfg with
    output := s.output
    work := { s.work with mode := .pre, ddg := [], gmult := [] } }

theorem mainPart_trialStep (nan : Draws) (s : State) : mainPart (trialStep nan s) = mainPart s := by
  unfold trialStep
  split <;> rfl

theorem mainPart_sampleStep (o : Operands) (nan : Draws) (s : State) :
    mainPart (sampleStep o nan s) = sampleStep o nan (mainPart s) := by
  rw [sampleStep, sampleStep, trialStep_of_ne (s := mainPart s) (by simp [mainPart]), ← mainPart_trialStep nan s]
  rfl

/-- A loop whose turns pass through a map passes through it. -/
theorem forLoop_map {α β : Type} {f : Nat → α → α} {g : Nat → β → β} {view : α → β}
    (turn : ∀ k a, view (f k a) = g k (view a)) (count start : Nat) (a : α) :
    view (forLoop f count start a) = forLoop g count start (view a) := by
  induction count generalizing start a with
  | zero => rfl
  | succ n ih => rw [forLoop_succ, forLoop_succ, ih, turn]

theorem mainPart_segment (o : Operands) (nan : Draws) (n : Nat) (s : State) :
    mainPart (segment o nan n s) = segment o nan n (mainPart s) :=
  forLoop_map (fun _ => mainPart_sampleStep o nan) n 0 s

theorem mainPart_update (nan : Draws) (s : State) : mainPart (update nan s) = update nan (mainPart s) := by
  simp [mainPart, update, initial_cfg]

theorem mainPart_runStep (o : Operands) (nan : Draws) (n : Nat) (s : State) :
    mainPart (runStep o nan n s) = runStep o nan n (mainPart s) := by
  rw [runStep, mainPart_segment, mainPart_update]
  rfl

theorem mainPart_runSubframe (o : Operands) (nan : Draws) (m : Nat) (s : State) :
    mainPart (runSubframe o nan m s) = runSubframe o nan m (mainPart s) :=
  forLoop_map (mainPart_runStep o nan) _ 0 _

theorem mainPart_runSubframes (o : Operands) (nan : Draws) (s : State) :
    mainPart (runSubframes o nan s) = runSubframes o nan (mainPart s) :=
  forLoop_map (mainPart_runSubframe o nan) _ 0 s

theorem mainPart_initGainSearch (s : State) : mainPart (initGainSearch s) = mainPart s := by
  unfold initGainSearch
  split <;> rfl

theorem mainPart_exportFilterState (s : State) : mainPart (exportFilterState s) = setupExport (mainPart s) := by
  unfold exportFilterState
  split <;> rfl

theorem mainPart_setupLookahead (s : State) : mainPart (setupLookahead s) = setupLookahead (mainPart s) := rfl

/-- The sub-frame loop takes its gains from `G`, not from the operands (R174, R178). -/
theorem runSubframes_congr_gain (o : Operands) (gain : List F64) (nan : Draws) (s : State) :
    runSubframes { o with gain := gain } nan s = runSubframes o nan s := rfl

/-! ### validation and the seed -/

theorem seedOf_oldLag (nan : Draws) (mode : Mode) (o : Operands) (s : State) :
    (seedOf nan mode o s).oldLag =
      if fallbackTest nan s.cfg s.lastLag (o.lagAt 0) then o.lagAt 0 else s.lastLag := by
  unfold seedOf
  dsimp only
  split <;> rfl

/-- Validation looks at the lags only, which every mode reads alike (R171, R172). -/
theorem frameLegal_mode_iff (mode mode' : Mode) (s : State) : FrameLegal mode s ↔ FrameLegal mode' s := by
  have lags : frameStepLags mode s = frameStepLags mode' s := by
    simp only [frameStepLags, seedOf_oldLag]
    rfl
  rw [FrameLegal, FrameLegal, lags]

/-! ### operands that agree on the inputs read -/

/-- The two operands have the same target lags, and the same inputs at the first `n` samples. -/
structure SameInputsBelow (n : Nat) (o o' : Operands) : Prop where
  lag : ∀ m, o'.lagAt m = o.lagAt m
  input : ∀ k, k < n → o'.inputAt k = o.inputAt k

namespace SameInputsBelow

variable {o' : Operands} {n : Nat} (same : SameInputsBelow n o o')
include same

theorem sampleStep_eq (inside : s.work.index < n) : sampleStep o' nan s = sampleStep o nan s := by
  have outputs (b : State) (index : b.work.index = s.work.index) : outputSample o' nan b = outputSample o nan b := by
    rw [outputSample, outputSample, index, same.input _ inside]
  have index : (trialStep nan s).work.index = s.work.index := trialStep_work_index nan s
  unfold sampleStep mainStep historySample
  rw [outputs _ index, index, same.input _ inside]

theorem segment_eq {count : Nat} (inside : s.work.index + count ≤ n) :
    segment o' nan count s = segment o nan count s := by
  induction count with
  | zero => rw [segment, segment, forLoop_zero, forLoop_zero]
  | succ count ih =>
    rw [segment_last, segment_last, ih (by omega), same.sampleStep_eq (by rw [segment_work_index]; omega)]

theorem forLoop_runStep_eq {count : Nat} (inside : s.work.index + count * s.cfg.samplesPerStep ≤ n) :
    forLoop (runStep o' nan) count 0 s = forLoop (runStep o nan) count 0 s := by
  induction count with
  | zero => rw [forLoop_zero, forLoop_zero]
  | succ count ih =>
    rw [Nat.succ_mul] at inside
    rw [forLoop_last, forLoop_last, ih (by omega), runStep, runStep,
      same.segment_eq (by simpa [Nat.add_assoc] using inside)]

theorem runSubframe_eq {m : Nat} (inside : s.work.index + s.cfg.subframeLen ≤ n) :
    runSubframe o' nan m s = runSubframe o nan m s := by
  have setup : setupSubframe o' nan m s = setupSubframe o nan m s := by unfold setupSubframe; rw [same.lag]
  rw [runSubframe, runSubframe, setup]
  exact same.forLoop_runStep_eq inside

/-- The main pass reads the inputs of its samples only (R129, R180). -/
theorem runSubframes_eq (inside : s.work.index + subframes * s.cfg.subframeLen ≤ n) :
    runSubframes o' nan s = runSubframes o nan s := by
  have loop (count : Nat) (le : count ≤ subframes) :
      forLoop (runSubframe o' nan) count 0 s = forLoop (runSubframe o nan) count 0 s := by
    induction count with
    | zero => rw [forLoop_zero, forLoop_zero]
    | succ count ih =>
      have reached := Nat.mul_le_mul_right s.cfg.subframeLen le
      rw [Nat.succ_mul] at reached
      rw [forLoop_last, forLoop_last, ih (by omega), same.runSubframe_eq]
      rw [forLoop_runSubframe_index, forLoop_runSubframe_cfg]
      omega
  exact loop subframes le_rfl

end SameInputsBelow

/-! ### the commands of one state -/

theorem sameInputsBelow_operandsOf (mode mode' : Mode) (s : State) :
    SameInputsBelow s.cfg.frameLen (operandsOf mode s) (operandsOf mode' s) where
  lag _ := rfl
  input k inFrame := by
    rw [operandsOf_inputAt (inFrame.trans_le (frameLen_le_samplesOf mode' s.cfg)),
      operandsOf_inputAt (inFrame.trans_le (frameLen_le_samplesOf mode s.cfg))]

/-- Outside mode POST the seed takes the gains as they are (R174). -/
theorem seedOf_eq_of_ne_post (nan : Draws) {mode mode' : Mode} (pre : mode ≠ .post) (pre' : mode' ≠ .post)
    (s : State) :
    seedOf nan mode (operandsOf mode s) s = seedOf nan mode' (operandsOf mode' s) s := by
  have targets : targetGain nan s.cfg mode (operandsOf mode s) = targetGain nan s.cfg mode' (operandsOf mode' s) := by
    funext m
    rw [targetGain, targetGain, if_neg pre, if_neg pre']
    rfl
  rw [seedOf, seedOf, targets]
  rfl

/-- Outside mode POST the main path starts alike in every mode. -/
theorem mainPart_loopStart_of_ne_post {mode mode' : Mode} (pre : mode ≠ .post) (pre' : mode' ≠ .post) (s : State) :
    mainPart (loopStart mode s) = mainPart (loopStart mode' s) := by
  rw [loopStart, loopStart, mainPart_initGainSearch, mainPart_initGainSearch, seedOf_eq_of_ne_post _ pre pre']
  rfl

/-- Outside mode POST the main pass makes the same of the main path in every mode (R129, R132). -/
theorem mainPart_mainPass_of_ne_post (legal : s.cfg.wf) {mode mode' : Mode} (pre : mode ≠ .post)
    (pre' : mode' ≠ .post) :
    mainPart (mainPass mode s) = mainPart (mainPass mode' s) := by
  obtain ⟨⟨frame, -⟩, -⟩ := legal
  rw [mainPass, mainPass, mainPart_runSubframes, mainPart_runSubframes, mainPart_loopStart_of_ne_post pre pre']
  refine (sameInputsBelow_operandsOf mode' mode s).runSubframes_eq ?_
  change (loopStart mode' s).work.index + subframes * (loopStart mode' s).cfg.subframeLen ≤ _
  rw [loopStart_work_index, loopStart_cfg, frame, Nat.zero_add, Nat.mul_assoc]

/-! ### FilterState and OUT after a command -/

section

variable (same : mainPart u = mainPart s)
include same

theorem cfg_of_mainPart : u.cfg = s.cfg := congrArg (·.cfg) same
theorem output_of_mainPart : u.output = s.output := congrArg (·.output) same
theorem wbuf_of_mainPart : u.work.wbuf = s.work.wbuf := congrArg (·.work.wbuf) same
theorem wdamp_of_mainPart : u.work.wdamp = s.work.wdamp := congrArg (·.work.wdamp) same
theorem oldLag_of_mainPart : u.work.oldLag = s.work.oldLag := congrArg (·.work.oldLag) same
theorem oldGain_of_mainPart : u.work.oldGain = s.work.oldGain := congrArg (·.work.oldGain) same

end

theorem sameFilterState_of_mainPart {mode mode' : Mode} (exports : mode ≠ .preGain) (exports' : mode' ≠ .preGain)
    (legal : FrameLegal mode s) (legal' : FrameLegal mode' u)
    (same : mainPart (mainPass mode' u) = mainPart (mainPass mode s)) :
    sameFilterState (frameCommand mode s) (frameCommand mode' u) := by
  have cfg : (mainPass mode' u).cfg = (mainPass mode s).cfg := cfg_of_mainPart same
  rw [mainPass_cfg, mainPass_cfg] at cfg
  obtain ⟨hist, damp, lastLag, lastGain⟩ := frameCommand_filterState_of_exports exports legal
  obtain ⟨hist', damp', lastLag', lastGain'⟩ := frameCommand_filterState_of_exports exports' legal'
  rw [sameFilterState, hist, damp, lastLag, lastGain, hist', damp', lastLag', lastGain', cfg]
  exact ⟨by rw [wbuf_of_mainPart same], wdamp_of_mainPart same, oldLag_of_mainPart same, oldGain_of_mainPart same⟩

/-- OUT below the end of the frame is the main pass's (R183). -/
theorem frameCommand_output_of_lt_frameLen (wf : s.wf) (legal : FrameLegal mode s) {k : Nat}
    (inFrame : k < s.cfg.frameLen) : (frameCommand mode s).output[k]? = (mainPass mode s).output[k]? :=
  (keepsSamples_mainPass_frameCommand legal).output k (by rwa [mainPass_work_index wf])

theorem looksAhead_iff : mode.looksAhead = true ↔ mode = .preLa ∨ mode = .preGain := by
  cases mode <;> simp [Mode.looksAhead]

/-- Without a lookahead OUT is the main pass's. -/
theorem frameCommand_output_of_not_looksAhead (legal : FrameLegal mode s) (stays : mode.looksAhead = false) :
    (frameCommand mode s).output = (mainPass mode s).output := by
  have other : ¬ (mode = .preLa ∨ mode = .preGain) := by rw [← looksAhead_iff, stays]; decide
  rw [frameCommand_of_mainPass legal, runLookahead, if_neg (by simpa [mainPass_work_mode] using other)]
  simp

/-- With a lookahead OUT is that of its segment (R183). -/
theorem frameCommand_output_of_looksAhead (legal : FrameLegal mode s) (looks : mode = .preLa ∨ mode = .preGain) :
    (frameCommand mode s).output =
      (segment (operandsOf mode s) (drawsOf s) s.cfg.lookahead (lookaheadStart mode s)).output := by
  rw [frameCommand_of_mainPass legal, complete_output, idlePhase_output, runLookahead_mainPass looks]

theorem mainPart_lookaheadStart (mode : Mode) (s : State) :
    mainPart (lookaheadStart mode s) = setupLookahead (setupExport (mainPart (mainPass mode s))) := by
  rw [lookaheadStart, mainPart_setupLookahead, mainPart_exportFilterState, mainPass]

theorem frameCommand_status (legal : FrameLegal mode s) :
    (frameCommand mode s).status = statusCompleted s.status := by
  rw [frameCommand_of_legal legal]
  simp

/-! ### TRIAL outside gain search -/

/-- The command is no gain search, and TRIAL is `trial` (R41, R132). -/
def TrialIs (trial : List (List Slot)) (s : State) : Prop := s.work.mode ≠ .preGain ∧ s.trial = trial

section

variable {trial : List (List Slot)} (h : TrialIs trial s)
include h

theorem trialIs_sampleStep : TrialIs trial (sampleStep o nan s) := by
  obtain ⟨other, is⟩ := h
  exact ⟨by rwa [sampleStep_work_mode], by rw [sampleStep_trial, trialStep_of_ne other, is]⟩

theorem trialIs_segment (n : Nat) : TrialIs trial (segment o nan n s) :=
  forLoop_keeps n 0 (fun _ _ => trialIs_sampleStep) h

theorem trialIs_runStep (n : Nat) : TrialIs trial (runStep o nan n s) :=
  trialIs_segment (by simpa [TrialIs] using h) _

theorem trialIs_runSubframe (m : Nat) : TrialIs trial (runSubframe o nan m s) :=
  forLoop_keeps _ 0 (fun n _ h => trialIs_runStep h n) (by simpa [TrialIs] using h)

theorem trialIs_runLookahead : TrialIs trial (runLookahead o nan s) := by
  unfold runLookahead
  split
  · exact trialIs_segment (s := setupLookahead s) h _
  · exact h

end

theorem trialIs_mainPass (exports : mode ≠ .preGain) (s : State) : TrialIs s.trial (mainPass mode s) :=
  forLoop_keeps _ 0 (fun m _ h => trialIs_runSubframe h m)
    ⟨by rwa [loopStart_work_mode], by rw [loopStart, initGainSearch_of_ne exports]; rfl⟩

/-- Only gain search writes TRIAL (R41). -/
theorem frameCommand_trial_of_ne (exports : mode ≠ .preGain) (s : State) : (frameCommand mode s).trial = s.trial := by
  rcases frameCommand_cases mode s with ⟨f, -, h⟩ | ⟨none, -⟩
  · rw [h]; rfl
  · have exported : TrialIs s.trial (exportFilterState (mainPass mode s)) := by
      simpa [TrialIs] using trialIs_mainPass exports s
    rw [frameCommand_of_mainPass ((frameFault_eq_none_iff mode s).mp none), complete_trial, idlePhase_trial]
    exact (trialIs_runLookahead exported).2

/-! ### the post-filter as a pre-filter with scaled gains -/

/-- The state whose target gains are those of mode POST in `s`: each product `GAIN[m] x ENHANCER` (R174, R205). -/
def withScaledGains (s : State) : State :=
  { s with gain := (List.range subframes).map fun m =>
      ⟨F64.mul (drawsOf s ⟨.enhance, m, 0, 0⟩) (peek s (.gain m)) s.cfg.enhancer, true⟩ }

theorem operandsOf_gainAt {m : Nat} (h : m < subframes) (mode : Mode) (s : State) :
    (operandsOf mode s).gainAt m = readOperand s (.gain m) := by
  simp [Operands.gainAt, operandsOf, h]

theorem readOperand_of_marked {r : Reg} (mark : marked s r = true) : readOperand s r = peek s r := if_pos mark

theorem readOperand_withScaledGains {m : Nat} (subframe : m < subframes) :
    readOperand (withScaledGains s) (.gain m) =
      F64.mul (drawsOf s ⟨.enhance, m, 0, 0⟩) (peek s (.gain m)) s.cfg.enhancer := by
  have entry : (withScaledGains s).gain.getD m Slot.unwritten =
      ⟨F64.mul (drawsOf s ⟨.enhance, m, 0, 0⟩) (peek s (.gain m)) s.cfg.enhancer, true⟩ := by
    simp [withScaledGains, subframe]
  rw [readOperand_of_marked (by rw [marked, entry]), peek, entry]

/-- Only the gains of the operands differ. -/
theorem operandsOf_withScaledGains (s : State) :
    operandsOf .pre (withScaledGains s) =
      { operandsOf .post s with gain := (operandsOf .pre (withScaledGains s)).gain } := rfl

section

variable (written : ∀ m, m < subframes → marked s (.gain m) = true)
include written

theorem seedOf_withScaledGains :
    seedOf (drawsOf s) .pre (operandsOf .pre (withScaledGains s)) (withScaledGains s) =
      seedOf (drawsOf s) .post (operandsOf .post s) s := by
  have targets : (List.range subframes).map (targetGain (drawsOf s) s.cfg .pre (operandsOf .pre (withScaledGains s))) =
      (List.range subframes).map (targetGain (drawsOf s) s.cfg .post (operandsOf .post s)) := by
    refine List.map_congr_left fun m h => ?_
    have subframe := List.mem_range.mp h
    rw [targetGain, targetGain, if_neg (by decide), if_pos rfl, operandsOf_gainAt subframe, operandsOf_gainAt subframe,
      readOperand_withScaledGains subframe, readOperand_of_marked (written m subframe)]
  unfold seedOf
  rw [← targets]
  rfl

theorem frameFault_withScaledGains :
    frameFault (drawsOf (withScaledGains s)) .pre (operandsOf .pre (withScaledGains s)) (withScaledGains s) =
      frameFault (drawsOf s) .post (operandsOf .post s) s := by
  rw [frameFault, frameFault, ← seedOf_withScaledGains written]
  rfl

theorem mainPart_mainPass_withScaledGains :
    mainPart (mainPass .pre (withScaledGains s)) = mainPart (mainPass .post s) := by
  have start : mainPart (loopStart .pre (withScaledGains s)) = mainPart (loopStart .post s) := by
    rw [loopStart, loopStart, mainPart_initGainSearch, mainPart_initGainSearch, ← seedOf_withScaledGains written]
    rfl
  rw [mainPass, mainPass, mainPart_runSubframes, mainPart_runSubframes, start, operandsOf_withScaledGains,
    runSubframes_congr_gain]
  rfl

end

end Sys2Proof.Machine

namespace Sys2Proof.Proofs

open Machine

/-- Settles O44: the main pass makes the same of the main path in both modes, and `PF_PRE_LA`'s lookahead only adds
outputs. -/
theorem lookaheadCommandExtendsPre : Obligations.LookaheadCommandExtendsPre := by
  unfold Obligations.LookaheadCommandExtendsPre
  intro s wf legal
  have legal' : FrameLegal .preLa s := (frameLegal_mode_iff .pre .preLa s).mp legal
  have same : mainPart (mainPass .preLa s) = mainPart (mainPass .pre s) :=
    mainPart_mainPass_of_ne_post wf.1 (by decide) (by decide)
  refine ⟨_, _, exec_frameInstr .pre s, exec_frameInstr .preLa s,
    sameFilterState_of_mainPart (by decide) (by decide) legal legal' same, fun k inFrame => ?_,
    frameCommand_trial_of_ne (by decide) s⟩
  rw [frameCommand_output_of_lt_frameLen wf legal inFrame, frameCommand_output_of_lt_frameLen wf legal' inFrame]
  rw [output_of_mainPart same]

/-- Settles O45: the main path is the same up to the lookahead and through it, and gain search exports nothing. -/
theorem gainSearchOutputIsLookaheadOutput : Obligations.GainSearchOutputIsLookaheadOutput := by
  unfold Obligations.GainSearchOutputIsLookaheadOutput
  intro s wf legal
  have legal' : FrameLegal .preGain s := (frameLegal_mode_iff .preLa .preGain s).mp legal
  have same : mainPart (mainPass .preGain s) = mainPart (mainPass .preLa s) :=
    mainPart_mainPass_of_ne_post wf.1 (by decide) (by decide)
  have ahead : mainPart (segment (operandsOf .preGain s) (drawsOf s) s.cfg.lookahead (lookaheadStart .preGain s)) =
      mainPart (segment (operandsOf .preLa s) (drawsOf s) s.cfg.lookahead (lookaheadStart .preLa s)) := by
    rw [mainPart_segment, mainPart_segment, mainPart_lookaheadStart, mainPart_lookaheadStart, same]
    rfl
  refine ⟨_, _, exec_frameInstr .preLa s, exec_frameInstr .preGain s, ?_, sameFilterState_frameCommand_preGain s, ?_⟩
  · rw [frameCommand_output_of_looksAhead legal (.inl rfl), frameCommand_output_of_looksAhead legal' (.inr rfl)]
    exact output_of_mainPart ahead
  · rw [frameCommand_status legal, frameCommand_status legal']

/-- Settles O46: the target gains are the same products, so that validation comes to the same end, and the main pass
reads no gain but the targets. -/
theorem postIsPreWithScaledGains : Obligations.PostIsPreWithScaledGains := by
  unfold Obligations.PostIsPreWithScaledGains
  intro s _ written
  change ∃ t u, exec .pfPost s = .next t ∧ exec .pfPre (withScaledGains s) = .next u ∧ _
  have validation := frameFault_withScaledGains written
  obtain ⟨-, gain, -, -⟩ := sameInputs_frameCommand .post s
  refine ⟨_, _, exec_frameInstr .post s, exec_frameInstr .pre (withScaledGains s), ?_⟩
  cases fault : frameFault (drawsOf s) .post (operandsOf .post s) s with
  | some f =>
    rw [frameCommand_of_fault fault, frameCommand_of_fault (validation.trans fault)]
    exact ⟨rfl, sameFilterState_refl _, rfl, rfl, rfl, rfl⟩
  | none =>
    have legal : FrameLegal .post s := (frameFault_eq_none_iff .post s).mp fault
    have legal' : FrameLegal .pre (withScaledGains s) := (frameFault_eq_none_iff _ _).mp (validation.trans fault)
    have same := mainPart_mainPass_withScaledGains written
    refine ⟨?_, sameFilterState_of_mainPart (by decide) (by decide) legal legal' same, ?_, ?_, ?_, gain⟩
    · rw [frameCommand_output_of_not_looksAhead legal rfl, frameCommand_output_of_not_looksAhead legal' rfl]
      exact output_of_mainPart same
    · rw [frameCommand_status legal, frameCommand_status legal']
      rfl
    · rw [frameCommand_of_legal legal, frameCommand_of_legal legal']
      simp [withScaledGains]
    · rw [frameCommand_of_legal legal, frameCommand_of_legal legal']
      simp [withScaledGains]

end Sys2Proof.Proofs
end

section
/-! SUPPORT. The zero-gain identity over a frame (R202, R137): zeros stay zeros through the gain ramps, and the history
stays so small that no prediction overflows (log entry 15). -/

namespace Sys2Proof.F64

/-! ### zeros -/

theorem isFinite_zero : isFinite zero = true := by decide

theorem magBits_zero : magBits zero = 0 := by decide

theorem magBits_add_of_zeros (nan : F64) {a b : F64} (za : magBits a = 0) (zb : magBits b = 0) :
    magBits (add nan a b) = 0 := by
  rw [add_finite nan (isFinite_of_zero za) (isFinite_of_zero zb), toInt_of_zero za, toInt_of_zero zb, if_pos (by decide),
    magBits_make (by decide)]

theorem magBits_sub_of_zeros (nan : F64) {a b : F64} (za : magBits a = 0) (zb : magBits b = 0) :
    magBits (sub nan a b) = 0 :=
  magBits_add_of_zeros nan za (by rwa [magBits_neg])

theorem magBits_div_of_zero (nan : F64) {a b : F64} (zero : magBits a = 0) (number : isFinite b = true)
    (nonzero : magBits b ≠ 0) : magBits (div nan a b) = 0 := by
  have : units a = 0 := (units_eq_zero_iff a).mpr zero
  rw [div_finite nan (isFinite_of_zero zero) number nonzero, this, Nat.zero_mul, roundMag_zero, magBits_make (by decide)]

theorem magBits_i2f_ne_zero {n : Int} (small : n.natAbs < 2 ^ 53) (nonzero : n ≠ 0) : magBits (i2f n) ≠ 0 := by
  obtain ⟨-, value⟩ := i2f_exact small
  rw [ne_eq, ← units_eq_zero_iff, ← natAbs_toInt, value, Int.natAbs_eq_zero]
  exact Int.mul_ne_zero nonzero (Int.natCast_ne_zero.mpr oneUnits_pos.ne')

/-! ### bounded numbers -/

/-- A number of at most `bound` units. -/
def Within (bound : Nat) (x : F64) : Prop := isFinite x = true ∧ units x ≤ bound

/-- A whole number of units that is the value of a finite image. -/
def Representable (n : Nat) : Prop := ∃ y, y < infBits ∧ unitsOf y = n

theorem within_zero (bound : Nat) : Within bound zero :=
  ⟨isFinite_zero, ((units_eq_zero_iff zero).mpr magBits_zero).trans_le (Nat.zero_le _)⟩

theorem Within.mono {a b : Nat} {x : F64} (h : Within a x) (le : a ≤ b) : Within b x := ⟨h.1, h.2.trans le⟩

/-- An image at most that of a bound is within the bound. -/
theorem within_make {neg : Bool} {m y : Nat} (finite : y < infBits) (le : m ≤ y) :
    Within (unitsOf y) (make neg m) :=
  ⟨isFinite_make (le.trans_lt finite), by
    rw [units_make ((le.trans_lt finite).trans infBits_lt)]; exact unitsOf_strictMono.monotone le⟩

/-- A sum is narrowed to a number within the sum of the bounds, where that is a number of the format (R14). -/
theorem Within.add {a b : Nat} {x y : F64} (hx : Within a x) (hy : Within b y) (nan : F64)
    (bound : Representable (a + b)) : Within (a + b) (add nan x y) := by
  obtain ⟨top, finite, value⟩ := bound
  obtain ⟨finX, leX⟩ := hx
  obtain ⟨finY, leY⟩ := hy
  rw [← natAbs_toInt] at leX leY
  rw [add_finite nan finX finY, ← value]
  split
  · exact within_make finite (Nat.zero_le _)
  · exact within_make finite (roundMag_le_of_le Nat.one_pos (by rw [Nat.one_mul, value]; omega))

theorem units_one : units one = oneUnits := by decide +kernel

/-- A factor of at most 1 leaves a bound (R14). -/
theorem Within.mul {a : Nat} {x c : F64} (hx : Within a x) (small : magBits c ≤ magBits one) (nan : F64) :
    Within a (mul nan x c) := by
  obtain ⟨finX, leX⟩ := hx
  have finC : isFinite c = true := decide_eq_true (small.trans_lt (by decide))
  have factor : units c ≤ oneUnits := units_one ▸ unitsOf_strictMono.monotone small
  rw [mul_finite nan finX finC]
  refine (within_make (magBits_lt_of_finite finX) (roundMag_le_of_le oneUnits_pos ?_)).mono leX
  rw [Nat.mul_comm]
  exact Nat.mul_le_mul_right _ factor

/-- `n` terms added one after another from `+0.0` stay within `n` times their bound. -/
theorem within_foldl_add {bound n : Nat} (sums : ∀ k, k ≤ n → Representable (k * bound)) (nan term : Nat → F64)
    (terms : ∀ m, Within bound (term m)) :
    Within (n * bound) ((List.range n).foldl (fun sum m => F64.add (nan m) sum (term m)) zero) := by
  induction n with
  | zero => exact within_zero _
  | succ n ih =>
    rw [List.range_succ, List.foldl_append, List.foldl_cons, List.foldl_nil, Nat.succ_mul]
    exact (ih fun k le => sums k (Nat.le_succ_of_le le)).add (terms n) _ (Nat.succ_mul n bound ▸ sums _ le_rfl)

/-- The bound on the samples of a frame: `2^1000`, in units. -/
def sampleBound : Nat := 2 ^ 1000 * oneUnits

theorem pow_mul_pow_eq {e f g h : Nat} (same : e + f = g + h) : 2 ^ e * 2 ^ f = 2 ^ g * 2 ^ h := by
  rw [← Nat.pow_add, ← Nat.pow_add, same]

theorem representable_mul_sampleBound {k : Nat} (small : k < 2 ^ 20) : Representable (k * sampleBound) := by
  obtain ⟨y, finite, value⟩ := exists_unitsOf_eq (k := k * 2 ^ 29) (e := 2045) (by omega) (by decide)
  refine ⟨y, finite, value.trans ?_⟩
  rw [sampleBound, oneUnits, Nat.mul_assoc, pow_mul_pow_eq (show 29 + 2045 = 1000 + 1074 from rfl)]

end Sys2Proof.F64

namespace Sys2Proof.Machine

variable {o : Operands} {nan : Draws} {mode : Mode} {s t : State}

/-! ### the sample step on a small history -/

/-- The steps of the ramps have a number, the damping taps are finite, and no coefficient is above 1. -/
structure TameConfig (c : Config) : Prop where
  steps : c.steps ≠ 0
  small : c.steps < 2 ^ 53
  damp : ∀ x ∈ c.dampCoef, F64.isFinite x = true
  interp : ∀ row ∈ c.interpCoef, ∀ x ∈ row, F64.magBits x ≤ F64.magBits F64.one

theorem activeRow_small (tame : TameConfig s.cfg) (m : Nat) :
    F64.magBits ((activeRow s).getD m F64.zero) ≤ F64.magBits F64.one := by
  have zero : F64.magBits F64.zero ≤ F64.magBits F64.one := by decide
  refine getD_zero_of_forall (P := fun x => F64.magBits x ≤ F64.magBits F64.one) (fun x h => ?_) zero m
  rcases lt_or_ge s.work.row.toNat s.cfg.interpCoef.length with inside | beyond
  · rw [activeRow, List.getD_eq_getElem _ _ inside] at h
    exact tame.interp _ (List.getElem_mem inside) x h
  · rw [activeRow, List.getD_eq_default _ _ beyond] at h
    cases h

/-- Nine taps of at most 1 on a history below `2^1001` overflow nowhere (R123). -/
theorem isFinite_predict (tame : TameConfig s.cfg)
    (history : ∀ x ∈ s.work.wbuf, F64.Within (2 * F64.sampleBound) x) : F64.isFinite (predict nan s) = true := by
  refine (F64.within_foldl_add (bound := 2 * F64.sampleBound) (n := interpTaps) (fun k le => ?_)
    (fun m => nan ⟨.tapAdd, s.work.index, 0, m⟩) _ fun m => ?_).1
  · rw [← Nat.mul_assoc]
    exact F64.representable_mul_sampleBound (by change k ≤ 9 at le; omega)
  · exact (getD_zero_of_forall history (F64.within_zero _) _).mul (activeRow_small tame m) _

/-- With a gain of either zero the damper memory stays all zeros (R122, R124). -/
theorem nextDamper_zeros_of_magBits (gain : F64.magBits s.work.wGain = 0) (finite : F64.isFinite (predict nan s) = true)
    (zeros : ∀ d ∈ s.work.wdamp, F64.magBits d = 0) : ∀ d ∈ nextDamper nan s, F64.magBits d = 0 := by
  intro d h
  rcases List.mem_or_eq_of_mem_set h with older | rfl
  · exact zeros d (mem_shiftDamper older)
  · exact F64.magBits_mul_of_zero _ gain finite

/-! ### zero gains through a frame -/

/-- Before a ramp: the start and the targets of the ramps and the damper memory are zeros, the working buffer is small,
and the outputs made are the inputs. -/
structure ZeroTargets (o : Operands) (s : State) : Prop where
  tame : TameConfig s.cfg
  start : F64.magBits s.work.oldGain = 0
  targets : ∀ x ∈ s.work.g, F64.magBits x = 0
  damper : ∀ d ∈ s.work.wdamp, F64.magBits d = 0
  history : ∀ x ∈ s.work.wbuf, F64.Within (2 * F64.sampleBound) x
  made : ∀ k, k < s.work.index → k < s.output.length → s.output[k]? = some ⟨o.inputAt k, true⟩

/-- In a ramp: the gain and its increment are zeros too. -/
structure ZeroRamp (o : Operands) (s : State) : Prop extends ZeroTargets o s where
  gain : F64.magBits s.work.wGain = 0
  delta : F64.magBits s.work.gainDelta = 0

/-- `s` with what `ZeroRamp` speaks of. -/
def gainPart (s : State) : State :=
  { mainPart s with
    work := { Work.idle s.cfg with
      oldGain := s.work.oldGain
      g := s.work.g
      wdamp := s.work.wdamp
      wbuf := s.work.wbuf
      index := s.work.index
      wGain := s.work.wGain
      gainDelta := s.work.gainDelta } }

theorem zeroRamp_gainPart_iff : ZeroRamp o (gainPart s) ↔ ZeroRamp o s := by
  constructor <;> intro h <;>
    exact ⟨⟨h.tame, h.start, h.targets, h.damper, h.history, h.made⟩, h.gain, h.delta⟩

theorem ZeroRamp.congr (h : ZeroRamp o s) (same : gainPart t = gainPart s) : ZeroRamp o t := by
  rw [← zeroRamp_gainPart_iff] at h ⊢
  rwa [same]

theorem gainPart_trialStep (nan : Draws) (s : State) : gainPart (trialStep nan s) = gainPart s := by
  unfold trialStep
  split <;> rfl

theorem gainPart_update (nan : Draws) (s : State) : gainPart (update nan s) = gainPart s := by
  simp [gainPart, mainPart]

theorem gainPart_setupLookahead (s : State) : gainPart (setupLookahead s) = gainPart s := rfl

theorem gainPart_complete (s : State) : gainPart (complete (idlePhase s)) = gainPart s := rfl

theorem gainPart_exportFilterState (s : State) : gainPart (exportFilterState s) = gainPart s := by
  unfold exportFilterState
  split <;> rfl

section

variable (inputs : ∀ k, F64.Within F64.sampleBound (o.inputAt k))
include inputs

/-- With gain zero the output is the input, and the history sample twice the input (R129, R130, R137). -/
theorem zeroRamp_mainStep (h : ZeroRamp o s) : ZeroRamp o (mainStep o nan s) := by
  have finite : F64.isFinite (predict nan s) = true := isFinite_predict h.tame h.history
  have damper := nextDamper_zeros_of_magBits h.gain finite h.damper
  have output : outputSample o nan s = o.inputAt s.work.index := by
    rw [outputSample, dampingSum_zeros nan _ damper h.tame.damp,
      F64.sub_plusZero _ (F64.not_nan_of_finite (inputs _).1)]
  have history : F64.Within (2 * F64.sampleBound) (historySample o nan s) := by
    rw [historySample, output, Nat.two_mul]
    exact (inputs _).add (inputs _) _ (Nat.two_mul _ ▸ F64.representable_mul_sampleBound (by decide))
  refine ⟨⟨h.tame, h.start, h.targets, damper, fun x mem => ?_, fun k before inside => ?_⟩, h.gain, h.delta⟩
  · rcases List.mem_or_eq_of_mem_set mem with older | rfl
    · exact h.history x older
    · exact history
  · rw [mainStep_output, List.length_set] at inside
    rw [mainStep_output, output]
    rcases (Nat.lt_succ_iff.mp before).lt_or_eq with earlier | rfl
    · rw [List.getElem?_set_ne earlier.ne', h.made k earlier inside]
    · rw [List.getElem?_set_self inside]

theorem zeroRamp_sampleStep (h : ZeroRamp o s) : ZeroRamp o (sampleStep o nan s) :=
  zeroRamp_mainStep inputs (h.congr (gainPart_trialStep nan s))

theorem zeroRamp_segment (h : ZeroRamp o s) (n : Nat) : ZeroRamp o (segment o nan n s) :=
  forLoop_keeps n 0 (fun _ _ => zeroRamp_sampleStep inputs) h

/-- An increment of zero leaves a gain of zero (R179). -/
theorem zeroRamp_runStep (h : ZeroRamp o s) (n : Nat) : ZeroRamp o (runStep o nan n s) := by
  have advanced : ZeroRamp o (advanceRamp nan n s) :=
    ⟨⟨h.tame, h.start, h.targets, h.damper, h.history, h.made⟩, F64.magBits_add_of_zeros _ h.gain h.delta, h.delta⟩
  exact zeroRamp_segment inputs (advanced.congr (gainPart_update nan _)) _

/-- A ramp from zero to zero has the increment zero (R178). -/
theorem zeroRamp_runSubframe (h : ZeroTargets o s) (m : Nat) : ZeroRamp o (runSubframe o nan m s) := by
  have target : F64.magBits (s.work.g.getD m F64.zero) = 0 := getD_zero_of_forall h.targets F64.magBits_zero m
  obtain ⟨number, -⟩ := F64.i2f_exact (n := s.cfg.steps) (by simpa using h.tame.small)
  have divisor : F64.magBits (F64.i2f s.cfg.steps) ≠ 0 :=
    F64.magBits_i2f_ne_zero (by simpa using h.tame.small) (by simpa using h.tame.steps)
  have delta : F64.magBits (gainDeltaOf nan s.cfg m s.work.oldGain (s.work.g.getD m F64.zero)) = 0 :=
    F64.magBits_div_of_zero _ (F64.magBits_sub_of_zeros _ target h.start) number divisor
  have setup : ZeroRamp o (setupSubframe o nan m s) :=
    ⟨⟨h.tame, target, h.targets, h.damper, h.history, h.made⟩, h.start, delta⟩
  exact forLoop_keeps _ 0 (fun n _ h => zeroRamp_runStep inputs h n) setup

theorem zeroRamp_runSubframes (h : ZeroTargets o s) : ZeroRamp o (runSubframes o nan s) := by
  rw [runSubframes, show subframes = 3 + 1 from rfl, forLoop_last]
  exact zeroRamp_runSubframe inputs
    (forLoop_keeps 3 0 (fun m _ h => (zeroRamp_runSubframe inputs h m).toZeroTargets) h) _

theorem zeroRamp_runLookahead (h : ZeroRamp o s) : ZeroRamp o (runLookahead o nan s) := by
  unfold runLookahead
  split
  · exact zeroRamp_segment inputs (h.congr (gainPart_setupLookahead s)) _
  · exact h

end

/-- Zeros at the start of the sub-frame loop are zeros at the command's end. -/
theorem zeroRamp_frameCommand (legal : FrameLegal mode s)
    (inputs : ∀ k, F64.Within F64.sampleBound ((operandsOf mode s).inputAt k))
    (start : ZeroTargets (operandsOf mode s) (loopStart mode s)) :
    ZeroRamp (operandsOf mode s) (frameCommand mode s) := by
  have main : ZeroRamp (operandsOf mode s) (mainPass mode s) := zeroRamp_runSubframes inputs start
  have ahead := zeroRamp_runLookahead (nan := drawsOf s) inputs (main.congr (gainPart_exportFilterState _))
  rw [frameCommand_of_mainPass legal]
  exact ahead.congr (gainPart_complete _)

/-! ### a frame command with zero gains -/

theorem tameConfig_of_wf (legal : s.cfg.wf) (damp : ∀ x ∈ s.cfg.dampCoef, F64.isFinite x = true)
    (interp : ∀ row ∈ s.cfg.interpCoef, ∀ x ∈ row, F64.magBits x ≤ F64.magBits F64.one) : TameConfig s.cfg := by
  obtain ⟨⟨frame, steps, samples, -⟩, -, -, -, -, sizes, -⟩ := legal
  refine ⟨steps.ne', ?_, damp, interp⟩
  have le : s.cfg.steps ≤ s.cfg.frameLen := by
    rw [frame]
    exact (Nat.le_mul_of_pos_left _ (by decide)).trans (Nat.le_mul_of_pos_right _ samples)
  unfold Config.sizesOk Config.wbufLen at sizes
  omega

theorem within_inputAt
    (inputs : ∀ k, k < samplesOf mode s.cfg → F64.Within F64.sampleBound (readOperand s (.input k))) (k : Nat) :
    F64.Within F64.sampleBound ((operandsOf mode s).inputAt k) := by
  refine getD_zero_of_forall (fun x h => ?_) (F64.within_zero _) k
  obtain ⟨j, inside, rfl⟩ := List.mem_map.mp h
  exact inputs j (List.mem_range.mp inside)

theorem seedOf_g (nan : Draws) (mode : Mode) (o : Operands) (s : State) :
    (seedOf nan mode o s).g = (List.range subframes).map (targetGain nan s.cfg mode o) := by
  unfold seedOf
  dsimp only
  split <;> rfl

theorem targetGain_zero (gains : ∀ m, m < subframes → F64.magBits (readOperand s (.gain m)) = 0)
    (enhancer : F64.isFinite s.cfg.enhancer = true) {m : Nat} (subframe : m < subframes) :
    F64.magBits (targetGain nan s.cfg mode (operandsOf mode s) m) = 0 := by
  have gain := gains m subframe
  rw [← operandsOf_gainAt subframe mode s] at gain
  unfold targetGain
  split
  · exact F64.magBits_mul_of_zero _ gain enhancer
  · exact gain

/-- The frame starts from zeros: under fallback from the first target, otherwise from the last gain (R176). -/
theorem zeroTargets_loopStart (tame : TameConfig s.cfg)
    (gains : ∀ m, m < subframes → F64.magBits (readOperand s (.gain m)) = 0) (lastGain : F64.magBits s.lastGain = 0)
    (damper : ∀ d ∈ s.damp, F64.magBits d = 0) (enhancer : F64.isFinite s.cfg.enhancer = true)
    (history : ∀ x ∈ s.hist, F64.Within F64.sampleBound x) :
    ZeroTargets (operandsOf mode s) (loopStart mode s) where
  tame := by rwa [loopStart_cfg]
  start := by
    rw [loopStart_work_oldGain]
    cases falls : (seedOf (drawsOf s) mode (operandsOf mode s) s).fallback with
    | true =>
      rw [(seedOf_of_fallback falls).2, seedOf_g_getD _ _ _ _ (by decide)]
      exact targetGain_zero gains enhancer (by decide)
    | false => rwa [(seedOf_of_no_fallback falls).2]
  targets x h := by
    rw [loopStart_work_g, seedOf_g] at h
    obtain ⟨m, inside, rfl⟩ := List.mem_map.mp h
    exact targetGain_zero gains enhancer (List.mem_range.mp inside)
  damper d h := by
    rw [loopStart, initGainSearch_work_wdamp] at h
    exact damper d h
  history x h := by
    rw [loopStart, initGainSearch_work_wbuf] at h
    rcases List.mem_append.mp h with old | new
    · exact (history x old).mono (Nat.le_mul_of_pos_left _ (by decide))
    · rw [List.eq_of_mem_replicate new]
      exact F64.within_zero _
  made k before := absurd before (by simp)

end Sys2Proof.Machine

namespace Sys2Proof.Proofs

open Machine in
/-- Settles O42: every gain and every damper entry of the frame is a zero, and the history holds at most twice the
greatest sample, so that no prediction is infinite and each output is its input. -/
theorem zeroGainFramePassesTheInput : Obligations.ZeroGainFramePassesTheInput := by
  unfold Obligations.ZeroGainFramePassesTheInput
  intro mode s wf legal gains lastGain damper enhancer damp interp history inputs
  have start : ZeroTargets (operandsOf mode s) (loopStart mode s) :=
    zeroTargets_loopStart (tameConfig_of_wf wf.1 damp interp) gains lastGain damper enhancer history
  have done := zeroRamp_frameCommand legal (within_inputAt inputs) start
  obtain ⟨-, -, -, -, -, outputs, -⟩ := memory_wf_frameCommand wf.2.1 mode
  obtain ⟨cfg, -⟩ := keeps_frameCommand mode s
  refine ⟨_, exec_frameInstr mode s, fun k written => ?_⟩
  have inside : k < s.cfg.segLen := by
    unfold samplesOf at written
    split at written <;> unfold Config.segLen <;> omega
  rw [done.made k (by rwa [frameCommand_work_index wf legal]) (by rwa [outputs, cfg]), operandsOf_inputAt written]

end Sys2Proof.Proofs
end

section
/-! SUPPORT. What each command leaves in the window (R200 to R207, R235): the marks of OUT and TRIAL after a frame, the
ramps' last targets, and for every command the registers it may write. -/

namespace Sys2Proof.Machine

variable {o : Operands} {nan : Draws} {mode : Mode} {s t : State}

/-! ### OUT up to INDEX -/

/-- OUT is marked below INDEX, and from INDEX on it is `before` (R40, R129). -/
structure OutputsMade (before : List Slot) (s : State) : Prop where
  made : ∀ k, k < s.work.index → k < s.output.length → marked s (.output k) = true
  rest : ∀ k, s.work.index ≤ k → s.output[k]? = before[k]?

variable {before : List Slot}

theorem OutputsMade.congr (h : OutputsMade before s) (index : t.work.index = s.work.index)
    (output : t.output = s.output) : OutputsMade before t where
  made := by unfold marked; rw [index, output]; exact h.made
  rest := by rw [index, output]; exact h.rest

theorem outputsMade_sampleStep (h : OutputsMade before s) : OutputsMade before (sampleStep o nan s) where
  made k below inside := by
    rw [sampleStep_output, List.length_set] at inside
    rw [sampleStep_work_index] at below
    rw [marked, sampleStep_output]
    rcases (Nat.lt_succ_iff.mp below).lt_or_eq with earlier | rfl
    · rw [getD_set_ne earlier.ne']
      exact h.made k earlier inside
    · rw [getD_set_self inside]
  rest k beyond := by
    rw [sampleStep_work_index] at beyond
    rw [sampleStep_output, List.getElem?_set_ne (by omega), h.rest k (by omega)]

theorem outputsMade_segment (h : OutputsMade before s) (n : Nat) : OutputsMade before (segment o nan n s) :=
  forLoop_keeps n 0 (fun _ _ => outputsMade_sampleStep) h

theorem outputsMade_runStep (h : OutputsMade before s) (n : Nat) : OutputsMade before (runStep o nan n s) :=
  outputsMade_segment (h.congr (by simp) (by simp)) _

theorem outputsMade_runSubframe (h : OutputsMade before s) (m : Nat) : OutputsMade before (runSubframe o nan m s) :=
  forLoop_keeps _ 0 (fun n _ h => outputsMade_runStep h n) (h.congr rfl rfl)

theorem outputsMade_runLookahead (h : OutputsMade before s) : OutputsMade before (runLookahead o nan s) := by
  unfold runLookahead
  split
  · exact outputsMade_segment (h.congr (t := setupLookahead s) rfl rfl) _
  · exact h

theorem outputsMade_loopStart (mode : Mode) (s : State) : OutputsMade s.output (loopStart mode s) where
  made k below := absurd below (by simp)
  rest k _ := by rw [loopStart, initGainSearch_output, importWork_output, noteOperands_output]

/-- A frame command that passes validation marks the OUT entries below the last INDEX and leaves the others. -/
theorem outputsMade_frameCommand (legal : FrameLegal mode s) : OutputsMade s.output (frameCommand mode s) := by
  have main : OutputsMade s.output (mainPass mode s) :=
    forLoop_keeps _ 0 (fun m _ h => outputsMade_runSubframe h m) (outputsMade_loopStart mode s)
  have ahead := outputsMade_runLookahead (o := operandsOf mode s) (nan := drawsOf s)
    (main.congr (t := exportFilterState (mainPass mode s)) (by simp) (by simp))
  rw [frameCommand_of_mainPass legal]
  exact ahead.congr (by simp) (by simp)

theorem samplesOf_le_segLen (mode : Mode) (c : Config) : samplesOf mode c ≤ c.segLen := by
  unfold samplesOf
  split
  · exact le_rfl
  · exact Nat.le_add_right _ _

/-- R40: the OUT entries of the mode are marked. -/
theorem marked_output_frameCommand (wf : s.wf) (legal : FrameLegal mode s) {k : Nat}
    (written : k < samplesOf mode s.cfg) :
    marked (frameCommand mode s) (.output k) = true := by
  obtain ⟨-, -, -, -, -, outputs, -⟩ := memory_wf_frameCommand wf.2.1 mode
  obtain ⟨cfg, -⟩ := keeps_frameCommand mode s
  refine (outputsMade_frameCommand legal).made k (by rwa [frameCommand_work_index wf legal]) ?_
  rw [outputs, cfg]
  exact written.trans_le (samplesOf_le_segLen mode s.cfg)

theorem frameCommand_output_rest (wf : s.wf) (legal : FrameLegal mode s) {k : Nat} (beyond : samplesOf mode s.cfg ≤ k) :
    (frameCommand mode s).output[k]? = s.output[k]? :=
  (outputsMade_frameCommand legal).rest k (by rwa [frameCommand_work_index wf legal])

/-! ### TRIAL in gain search -/

/-- Every entry of TRIAL is marked (R41). -/
def TrialMarked (s : State) : Prop := ∀ lane ∈ s.trial, ∀ slot ∈ lane, slot.written = true

/-- The lane's old entries are marked, and so is the sample written (R127). -/
theorem nextTrialLane_marked (h : TrialMarked s) (j : Nat) : ∀ slot ∈ nextTrialLane nan s j, slot.written = true := by
  have old : ∀ slot ∈ s.trial.getD j [], slot.written = true := by
    rcases lt_or_ge j s.trial.length with inside | beyond
    · rw [List.getD_eq_getElem _ _ inside]
      exact h _ (List.getElem_mem inside)
    · rw [List.getD_eq_default _ _ beyond]
      exact fun slot mem => absurd mem List.not_mem_nil
  intro slot mem
  rcases le_or_gt j s.work.sub with active | passive
  · rw [nextTrialLane_of_le active] at mem
    rcases List.mem_or_eq_of_mem_set mem with earlier | rfl
    · exact old slot earlier
    · rfl
  · rw [nextTrialLane_of_lt passive] at mem
    exact old slot mem

theorem trialMarked_sampleStep (h : TrialMarked s) : TrialMarked (sampleStep o nan s) := by
  unfold TrialMarked
  rw [sampleStep_trial]
  by_cases search : s.work.mode = .preGain
  · rw [trialStep_of_preGain search]
    intro lane mem
    obtain ⟨j, -, rfl⟩ := List.mem_map.mp mem
    exact nextTrialLane_marked h j
  · rw [trialStep_of_ne search]
    exact h

theorem trialMarked_segment (h : TrialMarked s) (n : Nat) : TrialMarked (segment o nan n s) :=
  forLoop_keeps n 0 (fun _ _ => trialMarked_sampleStep) h

theorem trialMarked_runStep (h : TrialMarked s) (n : Nat) : TrialMarked (runStep o nan n s) :=
  trialMarked_segment (by simpa [TrialMarked] using h) _

theorem trialMarked_runSubframe (h : TrialMarked s) (m : Nat) : TrialMarked (runSubframe o nan m s) :=
  forLoop_keeps _ 0 (fun n _ h => trialMarked_runStep h n) h

theorem trialMarked_runLookahead (h : TrialMarked s) : TrialMarked (runLookahead o nan s) := by
  unfold runLookahead
  split
  · exact trialMarked_segment (s := setupLookahead s) h _
  · exact h

/-- Gain search clears TRIAL with its marks set (R177). -/
theorem trialMarked_loopStart (s : State) : TrialMarked (loopStart .preGain s) := by
  intro lane mem
  rw [loopStart, initGainSearch_of_preGain (by rw [importWork_work])] at mem
  rw [List.eq_of_mem_replicate mem]
  intro slot mem
  rw [List.eq_of_mem_replicate mem]

theorem trialMarked_frameCommand (legal : FrameLegal .preGain s) : TrialMarked (frameCommand .preGain s) := by
  have main : TrialMarked (mainPass .preGain s) :=
    forLoop_keeps _ 0 (fun m _ h => trialMarked_runSubframe h m) (trialMarked_loopStart s)
  rw [TrialMarked, frameCommand_of_mainPass legal, complete_trial, idlePhase_trial]
  exact trialMarked_runLookahead (s := exportFilterState (mainPass .preGain s)) (by simpa [TrialMarked] using main)

theorem marked_trial_frameCommand (mem : Memory.wf s) (legal : FrameLegal .preGain s) {j k : Nat} (lane : j < subframes)
    (inside : k < s.cfg.segLen) : marked (frameCommand .preGain s) (.trial j k) = true := by
  have mem' := memory_wf_frameCommand mem .preGain
  obtain ⟨cfg, -⟩ := keeps_frameCommand .preGain s
  have length := length_trial_lane mem' lane
  rw [cfg] at length
  obtain ⟨-, -, -, -, -, -, lanes, -⟩ := mem'
  rw [← lanes] at lane
  rw [← length] at inside
  rw [marked, List.getD_eq_getElem _ _ inside]
  refine trialMarked_frameCommand legal _ ?_ _ (List.getElem_mem inside)
  rw [List.getD_eq_getElem _ _ lane]
  exact List.getElem_mem lane

/-! ### the targets that persist -/

theorem mainPass_work_oldLag (mode : Mode) (s : State) : (mainPass mode s).work.oldLag = readOperand s (.lag 3) := by
  rw [mainPass, runSubframes, forLoop_runSubframe_oldLag]
  exact operandsOf_lagAt (by decide) mode s

theorem mainPass_work_oldGain (mode : Mode) (s : State) :
    (mainPass mode s).work.oldGain =
      if mode = .post then F64.mul (drawsOf s ⟨.enhance, 3, 0, 0⟩) (readOperand s (.gain 3)) s.cfg.enhancer
      else readOperand s (.gain 3) := by
  rw [mainPass, runSubframes, forLoop_runSubframe_oldGain, if_neg (by decide), loopStart_g_getD mode s (by decide),
    targetGain, operandsOf_gainAt (by decide)]
  rfl

/-! ### the registers a command may write -/

theorem peek_frameCommand (wf : s.wf) (mode : Mode) {r : Reg} (kept : commandWrites (frameInstr mode) s.cfg r = false) :
    peek (frameCommand mode s) r = peek s r := by
  rcases frameCommand_cases mode s with ⟨f, -, taken⟩ | ⟨none, -⟩
  · rw [taken]
    cases r
    case status | faultCause | faultInfo => cases mode <;> cases kept
    all_goals rfl
  · have legal : FrameLegal mode s := (frameFault_eq_none_iff mode s).mp none
    obtain ⟨lag, gain, input, cmd⟩ := sameInputs_frameCommand mode s
    cases r
    case status | faultCause | faultInfo => cases mode <;> cases kept
    case lag => simp only [peek, lag]
    case gain => simp only [peek, gain]
    case input => simp only [peek, input]
    case cmd => exact cmd
    case output k =>
      have beyond : samplesOf mode s.cfg ≤ k := by
        cases mode <;> simpa [commandWrites, frameInstr, samplesOf, Mode.looksAhead] using kept
      exact peek_output_congr (frameCommand_output_rest wf legal beyond)
    case trial =>
      have exports : mode ≠ .preGain := by rintro rfl; cases kept
      simp only [peek, frameCommand_trial_of_ne exports]
    case hist | damp | lastLag | lastGain =>
      obtain rfl : mode = .preGain := by cases mode <;> simp_all [commandWrites, frameInstr]
      obtain ⟨hist, damp, lastLag, lastGain⟩ := sameFilterState_frameCommand_preGain s
      simp only [peek, hist, damp, lastLag, lastGain]

/-- R202 to R207, R235: a command leaves every register that it may not write. -/
theorem peek_exec (wf : s.wf) {i : Instr} (run : exec i s = .next t) {r : Reg}
    (kept : commandWrites i s.cfg r = false) : peek t r = peek s r := by
  rcases instr_cases i with ⟨mode, rfl⟩ | rfl | rfl
  · cases (exec_frameInstr mode s).symm.trans run
    exact peek_frameCommand wf mode kept
  · cases run
    cases r
    case status | hist | damp | lastLag | lastGain => cases kept
    all_goals rfl
  · cases run
    cases r
    case status | faultCause | faultInfo => cases kept
    all_goals rfl

theorem exec_cfg {i : Instr} (run : exec i s = .next t) : t.cfg = s.cfg := by
  rcases instr_cases i with ⟨mode, rfl⟩ | rfl | rfl
  · cases (exec_frameInstr mode s).symm.trans run
    exact (keeps_frameCommand mode s).1
  · cases run; rfl
  · cases run; rfl

/-! ### the record -/

/-- Whether it completes or faults, a frame command records the unmarked operands of its mode (R208, log entry 8). -/
theorem frameCommand_record (mode : Mode) (s : State) :
    (frameCommand mode s).record = s.record ++
      List.replicate ((operandRegs mode s.cfg).countP fun r => !marked s r) Violation.unwrittenRead := by
  have noted : (frameCommand mode s).record = (noteOperands mode s).record := by
    rcases frameCommand_cases mode s with ⟨f, -, h⟩ | ⟨-, h⟩ <;> rw [h]
    · rfl
    · rw [complete_record, runFrame_record]
  rw [noted, noteOperands_record, List.map_const', List.countP_eq_length_filter]

/-! ### STATUS -/

theorem statusCompleted_eq (w : Word) : statusCompleted w = w &&& ~~~1#64 ||| 2#64 := rfl

/-- Completion of `PF_CLRSTAT` leaves no bit of a STATUS without reserved bits but DONE (R43, R207). -/
theorem statusCompleted_statusCleared {w : Word} (reserved : w.toNat < 8) :
    statusCompleted (statusCleared w) = 2#64 := by
  have key : ∀ w : BitVec 3, statusCompleted (statusCleared (w.setWidth 64)) = 2#64 := by decide
  have word : (w.setWidth 3).setWidth 64 = w := by
    apply BitVec.eq_of_toNat_eq
    simp only [BitVec.toNat_setWidth]
    omega
  simpa only [word] using key (w.setWidth 3)

end Sys2Proof.Machine

namespace Sys2Proof.Proofs

open Machine

/-- Settles O14: clearing the fault and completing write the status registers only. -/
theorem clearStatusCompletes : Obligations.ClearStatusCompletes := by
  unfold Obligations.ClearStatusCompletes
  intro s ⟨_, _, reserved, _⟩
  exact ⟨complete (clearFault s), rfl, statusCompleted_statusCleared reserved, rfl, rfl, rfl, rfl,
    sameFilterState_refl s, ⟨rfl, rfl, rfl, rfl, rfl⟩, rfl, rfl, rfl, rfl, rfl, rfl⟩

/-- Settles O40: the outputs made reach the mode's last sample, gain search marks its whole TRIAL at its start, and the
ramps end at the last targets. -/
theorem frameCommandsComplete : Obligations.FrameCommandsComplete := by
  unfold Obligations.FrameCommandsComplete
  intro mode s wf legal
  have run := frameCommand_of_legal legal
  obtain ⟨lag, gain, input, cmd⟩ := sameInputs_frameCommand mode s
  obtain ⟨cfg, -⟩ := keeps_frameCommand mode s
  obtain ⟨idle, unpended, inputs, responses⟩ := commandOver_frameCommand mode s
  refine ⟨_, exec_frameInstr mode s, idle, ?_,
    (frameCommand_status legal).trans (statusCompleted_eq _), unpended,
    fun k written => marked_output_frameCommand wf legal written,
    fun k beyond => frameCommand_output_rest wf legal beyond, ?_, fun exports => frameCommand_trial_of_ne exports s,
    fun exports => ?_, ?_, lag, gain, input, cmd, ?_, ?_, cfg, inputs, responses⟩
  · rw [run]
    exact complete_done _
  · rintro rfl j k lane inside
    exact marked_trial_frameCommand wf.2.1 legal lane inside
  · obtain ⟨-, -, lastLag, lastGain⟩ := frameCommand_filterState_of_exports exports legal
    exact ⟨lastLag.trans (mainPass_work_oldLag mode s), lastGain.trans (mainPass_work_oldGain mode s)⟩
  · rintro rfl
    exact sameFilterState_frameCommand_preGain s
  · rw [run]
    simp
  · rw [run]
    simp

/-- Settles O50: the byte view shows the registers, and a command keeps those it may not write. -/
theorem commandsWriteOnlyTheirRegisters : Obligations.CommandsWriteOnlyTheirRegisters := by
  unfold Obligations.CommandsWriteOnlyTheirRegisters
  intro i s t a wf run kept
  rw [windowByte, windowByte, exec_cfg run]
  cases found : decodeOffset s.cfg (a - a % 8) with
  | none => rfl
  | some r => rw [Option.map_some, Option.map_some, peek_exec wf run (kept r found)]

/-- Settles O51: the operands are noted before validation decides. -/
theorem unwrittenOperandsAreRecordedOnce : Obligations.UnwrittenOperandsAreRecordedOnce := by
  unfold Obligations.UnwrittenOperandsAreRecordedOnce
  intro mode s t run
  cases (exec_frameInstr mode s).symm.trans run
  exact ⟨frameCommand_record mode s, fun r => readOperand_of_marked⟩

/-- Settles O54: the write reaches CMD, which is writable, and is a violation, ignored or accepted. -/
theorem commandWriteIsAccepted : Obligations.CommandWriteIsAccepted := by
  unfold Obligations.CommandWriteIsAccepted
  intro s v rest ⟨legal, _, _, _, pendingIff, _⟩ event
  have reached := accessReg_addressOf (r := .cmd) legal rfl
  have clrstat : encode .pfClrstat = 6#64 := by decide
  cases busy : s.busy with
  | true =>
    have violation : writeViolation s (addressOf s.cfg .cmd) 8 = some .busyAccess := by
      rw [writeViolation_of_some reached, busy]
      rfl
    refine ⟨_, step_of_write_violation event violation, rfl, sameFilterState_refl s, ⟨rfl, rfl, rfl, rfl, rfl⟩, rfl, rfl,
      rfl, fun _ => ⟨rfl, rfl, rfl, rfl, rfl, rfl⟩, nofun, nofun⟩
  | false =>
    have stored : step s = .next (issueCommand v { s with inputs := rest }) := by
      rw [step_of_write event, hostWrite_of_defined (s := { s with inputs := rest }) reached rfl busy]
      rfl
    refine ⟨_, stored, ?_⟩
    rcases issueCommand_cases v { s with inputs := rest } with ⟨faulted, other, ignored⟩ | ⟨clears, accepted⟩
    · have unpended : s.pending = none := by simpa [busy] using pendingIff
      rw [clrstat] at other
      rw [ignored]
      exact ⟨rfl, sameFilterState_refl s, ⟨rfl, rfl, rfl, rfl, rfl⟩, rfl, rfl, rfl, nofun,
        fun _ _ _ => ⟨rfl, rfl, rfl, unpended⟩, fun _ only => absurd (only faulted) other⟩
    · rw [clrstat] at clears
      rw [accepted]
      exact ⟨rfl, sameFilterState_refl s, ⟨rfl, rfl, rfl, rfl, rfl⟩, rfl, rfl, rfl, nofun,
        fun _ faulted other => absurd (clears faulted) other,
        fun _ _ => ⟨rfl, rfl, rfl, accept_busy _ _, accept_done _ _, accept_faulted _ _⟩⟩

/-- Settles O13: FilterState's reset values and completion write nothing else. -/
theorem initCompletes : Obligations.InitCompletes := by
  unfold Obligations.InitCompletes
  intro s _
  exact ⟨complete (initFilterState s), rfl, rfl, rfl, rfl, rfl, complete_busy _, complete_done _,
    statusCompleted_eq _, rfl, rfl, rfl, rfl, ⟨rfl, rfl, rfl, rfl, rfl⟩, rfl, rfl, rfl, rfl, rfl, rfl⟩

end Sys2Proof.Proofs
end

section
/-! SUPPORT. How an architectural fault is taken and left (R234 to R236): the state a faulting frame command leaves, a
NaN on the lag ramp, and a word written to CMD with the block's turn after it. -/

namespace Sys2Proof.F64

/-- `rne` is undefined for a NaN (R16). -/
theorem rne_of_nan {x : F64} (isNan : isNaN x = true) : rne x = none := by
  refine rne_eq_none fun ⟨finite, _⟩ => ?_
  rw [not_nan_of_finite finite] at isNan
  cases isNan

/-- A NaN passes from the left operand to the sum. -/
theorem isNaN_add_of_left (nan : F64) {a : F64} (isNan : isNaN a = true) (b : F64) : isNaN (add nan a b) = true :=
  ((add_freeExactlyWhere a b).isNaN_iff nan).mpr (.inl isNan)

end Sys2Proof.F64

namespace Sys2Proof.Machine

variable {mode : Mode} {s : State} {v : Word} {rest : List Event}

/-! ### the fault registers -/

/-- No cause has code 0 (R231). -/
theorem causeWord_ne_zero (c : FaultCause) : causeWord c ≠ 0 := by cases c <;> decide

theorem statusFaulted_eq (w : Word) : statusFaulted w = w &&& ~~~3#64 ||| 4#64 :=
  congrArg (· ||| 4#64) (BitVec.and_assoc w (~~~1#64) (~~~2#64))

/-- A frame command that does not pass validation takes a fault (R170). -/
theorem frameCommand_of_not_legal (illegal : ¬ FrameLegal mode s) :
    ∃ f, frameCommand mode s = takeFault f (noteOperands mode s) := by
  rcases frameCommand_cases mode s with ⟨f, -, taken⟩ | ⟨passes, -⟩
  · exact ⟨f, taken⟩
  · exact absurd ((frameFault_eq_none_iff mode s).mp passes) illegal

/-! ### a NaN on the lag ramp -/

/-- A NaN step lag has no offset (R151, R16), and `LagOffsetRange` comes before the row (R172). -/
theorem stepFault_of_nan (nan : Draws) (c : Config) (m n : Nat) {lag : F64} (isNan : F64.isNaN lag = true) :
    stepFault nan c m n lag = some ⟨.lagOffsetRange, c.steps * m + n⟩ := by
  have undefined : lagOffsetOf nan m n (delaySum nan c m n lag) = none :=
    F64.rne_of_nan (F64.isNaN_add_of_left _ (F64.isNaN_add_of_left _ isNan _) _)
  rcases stepFault_cases nan c m n lag with ⟨fault, -⟩ | ⟨offset, offsetIs, -⟩
  · exact fault
  · rw [undefined] at offsetIs
    cases offsetIs

/-- A ramp that starts at a NaN is a NaN after its first increment (R179). -/
theorem isNaN_runningSum_zero (nan : Draws) (op : SiteOp) (m : Nat) {start : F64} (isNan : F64.isNaN start = true)
    (delta : F64) : F64.isNaN (runningSum nan op m 0 start delta) = true :=
  F64.isNaN_add_of_left _ isNan delta

/-- The first step lag is the seed's first increment (R172, R179). -/
theorem frameStepLags_eq_cons (mode : Mode) (steps : 0 < s.cfg.steps) :
    ∃ after, frameStepLags mode s =
      (0, 0, scheduledLag (drawsOf s) s.cfg (seedOf (drawsOf s) mode (operandsOf mode s) s).oldLag
        (operandsOf mode s) 0 0) :: after := by
  have first := frameStepLags_getElem? mode s (m := 0) (by decide) steps
  rw [Nat.mul_zero, ← List.head?_eq_getElem?] at first
  exact List.head?_eq_some_iff.mp first

/-- The ramp that does not fall back starts at LAST_LAG, so that its NaN fails the first step (R234). -/
theorem frameFault_of_nan_lastLag (mode : Mode) (steps : 0 < s.cfg.steps) (targets : TargetLagsLegal s)
    (isNan : F64.isNaN s.lastLag = true) (stays : (seedOf (drawsOf s) mode (operandsOf mode s) s).fallback = false) :
    frameFault (drawsOf s) mode (operandsOf mode s) s = some ⟨.lagOffsetRange, 0⟩ := by
  obtain ⟨after, lags⟩ := frameStepLags_eq_cons mode steps
  obtain ⟨seed, -⟩ := seedOf_of_no_fallback stays
  rw [seed] at lags
  exact frameFault_of_stepLag (before := []) targets lags nofun
    (stepFault_of_nan _ _ 0 0 (isNaN_runningSum_zero _ _ 0 isNan _))

/-! ### a word written to CMD -/

/-- A write to CMD of an idle block issues its word (R200). -/
theorem step_of_command_write (legal : s.cfg.wf) (idle : s.busy = false)
    (event : s.inputs = .write (addressOf s.cfg .cmd) 8 v :: rest) :
    step s = .next (issueCommand v { s with inputs := rest }) := by
  rw [step_of_write event,
    hostWrite_of_defined (s := { s with inputs := rest }) (accessReg_addressOf legal rfl) rfl idle]
  rfl

/-- The events to come are no part of the invariant. -/
theorem wf_withInputs (wf : s.wf) (rest : List Event) : State.wf { s with inputs := rest } := wf

/-- The block's turn takes its event and performs what is pending (R80). -/
theorem step_of_block (event : s.inputs = .block :: rest) : step s = blockTurn { s with inputs := rest } := by
  rw [step_of_blockIsNext (.inr ⟨rest, event⟩), event, List.tail_cons]

/-- With nothing pending the block holds its state on its turn (R247). -/
theorem step_of_block_idle (event : s.inputs = .block :: rest) (unpended : s.pending = none) :
    step s = .next { s with inputs := rest } := by
  rw [step_of_block event, blockTurn, fetch, unpended]

/-- A pending command word is performed on the block's turn (R201). -/
theorem step_of_block_command {i : Instr} (event : s.inputs = .block :: rest) (pending : s.pending = some (encode i)) :
    step s = exec i { s with inputs := rest } := by
  rw [step_of_block event, blockTurn_of_command (s := { s with inputs := rest }) pending (decode_encode i)]

end Sys2Proof.Machine

namespace Sys2Proof.Proofs

open Machine

/-- Settles O32: a frame command that is not legal takes a fault, which with the noted operands leaves the rest. -/
theorem frameFaultsAreAtomic : Obligations.FrameFaultsAreAtomic := by
  unfold Obligations.FrameFaultsAreAtomic
  intro mode s illegal
  obtain ⟨f, taken⟩ := frameCommand_of_not_legal illegal
  have record := frameCommand_record mode s
  rw [taken] at record
  exact ⟨_, (exec_frameInstr mode s).trans (congrArg _ taken), takeFault_faulted _ _, takeFault_busy _ _,
    takeFault_done _ _, statusFaulted_eq s.status, rfl, causeWord_ne_zero f.cause, sameFilterState_refl s,
    ⟨rfl, rfl, rfl, rfl, rfl⟩, rfl, rfl, rfl, record, rfl, rfl, rfl⟩

/-- Settles O33: neither comparison with a NaN holds, and the ramp from LAST_LAG has no offset in its first step. -/
theorem nanLastLagFaultsAtStepZero : Obligations.NanLastLagFaultsAtStepZero := by
  unfold Obligations.NanLastLagFaultsAtStepZero
  intro mode s ⟨⟨_, steps, _⟩, _⟩ isNan targets
  have stays : (seedOf (drawsOf s) mode (operandsOf mode s) s).fallback = false := by
    rw [seedOf_fallback, fallbackTest_of_nan _ _ isNan]
  have taken := frameCommand_of_fault (frameFault_of_nan_lastLag mode steps targets isNan stays)
  exact ⟨stays, _, (exec_frameInstr mode s).trans (congrArg _ taken), takeFault_faulted _ _, rfl, rfl,
    sameFilterState_refl s⟩

/-- Settles O15: an ignored word leaves nothing for the block's turn; `PF_CLRSTAT`'s is accepted, and completes from
the well-formed state that the write leaves. -/
theorem faultIsLeftByClearStatusOnly : Obligations.FaultIsLeftByClearStatusOnly := by
  unfold Obligations.FaultIsLeftByClearStatusOnly
  intro s v rest wf faulted idle event
  have clrstat : encode .pfClrstat = 6#64 := by decide
  have ⟨legal, _, _, _, pendingIff, _⟩ := wf
  have unpended : s.pending = none := by simpa [idle] using pendingIff
  have issued := step_of_command_write legal idle event
  rcases issueCommand_cases v { s with inputs := .block :: rest } with ⟨-, other, ignored⟩ | ⟨clears, accepted⟩
  · rw [clrstat] at other
    rw [ignored] at issued
    exact ⟨fun _ => ⟨_, _, issued, step_of_block_idle rfl unpended, rfl⟩, fun only => absurd only other⟩
  · have isClrstat : v = encode .pfClrstat := clears faulted
    rw [accepted] at issued
    obtain ⟨u, run, status, cause, info, ended, -, filterState, data, -, -, record, -⟩ :=
      clearStatusCompletes _ (wf_withInputs (wf_step wf issued) rest)
    have performed := (step_of_block_command rfl (congrArg some isClrstat)).trans run
    exact ⟨fun other => absurd (isClrstat.trans clrstat) other,
      fun _ => ⟨_, u, issued, performed, status, cause, info, ended, filterState, data, record⟩⟩

end Sys2Proof.Proofs
end

section
/-! SUPPORT. The two ways to FilterState's reset values, a reset and `PF_INIT` (R206, R260, R262). -/

namespace Sys2Proof.Machine

/-- `PF_INIT` completes from every state, well formed or not (R206). -/
theorem exec_pfInit (s : State) : exec .pfInit s = .next (complete (initFilterState s)) := rfl

/-- The reset and `PF_INIT` take FilterState's values from the same configuration (R51, R206). -/
theorem sameFilterState_applyReset_initFilterState (s : State) :
    sameFilterState (applyReset s) (initFilterState s) :=
  ⟨(initFilterState_hist s).trans (applyReset_hist s).symm, (initFilterState_damp s).trans (applyReset_damp s).symm,
    (initFilterState_lastLag s).trans (applyReset_lastLag s).symm,
    (initFilterState_lastGain s).trans (applyReset_lastGain s).symm⟩

end Sys2Proof.Machine

namespace Sys2Proof.Proofs

open Machine

/-- Settles O12: completion leaves FilterState, so that the command's values are those `initFilterState` writes. -/
theorem initGivesTheResetFilterState : Obligations.InitGivesTheResetFilterState := by
  unfold Obligations.InitGivesTheResetFilterState
  intro s
  have same : sameFilterState (applyReset s) (complete (initFilterState s)) := by
    simpa only [sameFilterState, complete_hist, complete_damp, complete_lastLag, complete_lastGain] using
      sameFilterState_applyReset_initFilterState s
  have ⟨hist, damp, lastLag, lastGain⟩ := same
  exact ⟨_, exec_pfInit s, same, hist.trans (applyReset_hist s),
    damp.trans (applyReset_damp s), lastLag.trans (applyReset_lastLag s), lastGain.trans (applyReset_lastGain s)⟩

end Sys2Proof.Proofs
end
